-- ==== Sys2Proof/Word.lean ====
section
/-!
DEFINITION. The word types of the block (spec/00_scope.md R13): a byte is 8 bits, a 16-bit field has
16 bits, a word has 32 bits; bit 0 is the least significant bit of each.
-/

namespace Sys2Proof

/-- R13: an unsigned 8-bit value. -/
abbrev Byte := BitVec 8

/-- R13: a 32-bit value. -/
abbrev Word := BitVec 32

/-- R9 (FIELD_WIDTH): the 16-bit pattern of a signed field. -/
abbrev Half := BitVec 16

end Sys2Proof
end

