-- ==== Sys2Proof/Syntax.lean ====
section
/-!
DEFINITION. The operations of spec/30_encoding.md R302, one constructor per row of
spec/opcode_table.json. An operation word has no operand fields (R300): the operands stand in the
registers ARG_A, ARG_B and ARG_C and in the buffer IN (R303), so no constructor has an argument.
-/

namespace Sys2Proof

/-- R302: the eighteen operations. -/
inductive Instr where
  /-- ESC (R400) -/
  | esc
  /-- UNESC (R402) -/
  | unesc
  /-- UNESC_RST (R403) -/
  | unescRst
  /-- ENC16 (R410) -/
  | enc16
  /-- DEC16 (R420) -/
  | dec16
  /-- CHK_CLR (R460) -/
  | chkClr
  /-- CHK_ADD (R461) -/
  | chkAdd
  /-- CHK_RD (R462) -/
  | chkRd
  /-- CHK_SEQ (R463) -/
  | chkSeq
  /-- FRM_JOG (R510) -/
  | frmJog
  /-- FRM_STOP (R511) -/
  | frmStop
  /-- FRM_ABS (R512) -/
  | frmAbs
  /-- FRM_DELTA (R513) -/
  | frmDelta
  /-- FRM_ZERO (R514) -/
  | frmZero
  /-- FRM_HOME (R515) -/
  | frmHome
  /-- FRM_SYNC (R516) -/
  | frmSync
  /-- RSP_PARSE (R601) -/
  | rspParse
  /-- FLG_DECODE (R621) -/
  | flgDecode
  deriving DecidableEq, Repr

end Sys2Proof
end

