-- ==== Sys2Proof/Decode.lean ====
section
/-!
DEFINITION. Decoding an operation word and encoding an operation (spec/30_encoding.md R300 to R304).
-/

namespace Sys2Proof

/-- R301, R304: why a word decodes to ILLEGAL. -/
inductive DecodeError where
  /-- `w[31:8]` is not 0. -/
  | upperBitsSet (w : Word)
  /-- `w[31:8]` is 0 and `w[7:0]` is no code of R302. -/
  | unassignedCode (op : Byte)
  /-- The bytes given are not exactly the four of one word (R300: every operation is one word). -/
  | notOneWord (length : Nat)
  deriving DecidableEq, Repr

/-- R302: the operation of a code. -/
def operationOf (op : Byte) : Option Instr :=
  match op with
  | 0x01#8 => some .esc
  | 0x02#8 => some .unesc
  | 0x03#8 => some .unescRst
  | 0x04#8 => some .enc16
  | 0x05#8 => some .dec16
  | 0x08#8 => some .chkClr
  | 0x09#8 => some .chkAdd
  | 0x0A#8 => some .chkRd
  | 0x0B#8 => some .chkSeq
  | 0x10#8 => some .frmJog
  | 0x11#8 => some .frmStop
  | 0x12#8 => some .frmAbs
  | 0x13#8 => some .frmDelta
  | 0x14#8 => some .frmZero
  | 0x15#8 => some .frmHome
  | 0x16#8 => some .frmSync
  | 0x20#8 => some .rspParse
  | 0x21#8 => some .flgDecode
  | _ => none

/-- R301: total on all 2^32 words. -/
def decode (w : Word) : Except DecodeError Instr :=
  if w.extractLsb' 8 24 ≠ 0#24 then .error (.upperBitsSet w)
  else
    match operationOf (w.extractLsb' 0 8) with
    | some i => .ok i
    | none => .error (.unassignedCode (w.extractLsb' 0 8))

/-- The word whose bytes, in the little-endian order of the host bus (R206), are these four. -/
def wordOfBytes (b0 b1 b2 b3 : Byte) : Word :=
  b0.setWidth 32 ||| b1.setWidth 32 <<< 8 ||| b2.setWidth 32 <<< 16 ||| b3.setWidth 32 <<< 24

/-- The decoder on bytes as they stand at rising addresses: one word, little-endian (R206, R300). -/
def decodeBytes : List Byte → Except DecodeError Instr
  | [b0, b1, b2, b3] => decode (wordOfBytes b0 b1 b2 b3)
  | bs => .error (.notOneWord bs.length)

/-- The first `n` bytes of a number, least significant byte first. -/
def bytesOfNat : (n w : Nat) → List Byte
  | 0, _ => []
  | n + 1, w => BitVec.ofNat 8 w :: bytesOfNat n (w / 256)

/-- The decoder on the words of spec/opcode_table.json: `w` is the instruction's bits, bit 0 the least
significant; bits at and above `nbits` are 0, up to the one word an operation has. A table entry wider
than a word would be no operation. -/
def decodeTableWord (nbits w : Nat) : Option Instr :=
  match decodeBytes (bytesOfNat (max 4 (nbits / 8)) (w % 2 ^ nbits)) with
  | .ok i => some i
  | .error _ => none

/-- R302: the code of an operation. -/
def opcode : Instr → Byte
  | .esc => 0x01#8
  | .unesc => 0x02#8
  | .unescRst => 0x03#8
  | .enc16 => 0x04#8
  | .dec16 => 0x05#8
  | .chkClr => 0x08#8
  | .chkAdd => 0x09#8
  | .chkRd => 0x0A#8
  | .chkSeq => 0x0B#8
  | .frmJog => 0x10#8
  | .frmStop => 0x11#8
  | .frmAbs => 0x12#8
  | .frmDelta => 0x13#8
  | .frmZero => 0x14#8
  | .frmHome => 0x15#8
  | .frmSync => 0x16#8
  | .rspParse => 0x20#8
  | .flgDecode => 0x21#8

/-- R300: the operation word: bits 7:0 are the code, bits 31:8 are 0. -/
def encode (i : Instr) : Word := (opcode i).setWidth 32

end Sys2Proof
end

