-- ==== Sys2Proof/Config.lean ====
section
/-!
DEFINITION. The implementation parameters of spec/00_scope.md R10 as plain data, the condition names
that the open parameter FLAG_NAME ranges over (spec/43_response_parser.md R610 to R612), and the free
values (spec/93_implementation_defined.md I5 and I6), which are opaque: no proof can learn what they are.
-/

namespace Sys2Proof

/-- R10: the parameters a platform fixes before reset. `base` is BASE (R200), the bus address of the
register window; the rest carry the spec's names. FLAG_NAME is `FlagNames` below: no operation of the
block reads it (R612), so it is no part of this record. -/
structure Config where
  /-- NAK_BYTE -/
  nakByte : Byte
  /-- ESC_INTRO: the introducer byte put on the wire. -/
  escIntro : Byte
  /-- ESC_CMP: the fifth reserved byte, matched by the escape test. -/
  escCmp : Byte
  /-- DELTA_CMD: the command number of FRM_DELTA. -/
  deltaCmd : Byte
  /-- ESC_CHK: does the checksum byte of a built frame go through the escape transform? -/
  escChk : Bool
  /-- IN_MAX: bytes in the input buffer. -/
  inMax : Nat
  /-- OUT_MAX: bytes in the output buffer. -/
  outMax : Nat
  /-- BASE: the bus address of offset 0x000 of the register window. -/
  base : Nat
  deriving DecidableEq, Repr

/-! ### Free values

Each is applied to the epoch of the state (a count of host writes and resets, `State.epoch`) and to a
byte index. Between two host writes the epoch stands still, so a read repeated with no write between
gives the same value (R204); nothing else is known of them. -/

/-- I5: the value of IN byte `index` while the host has not written it since reset. -/
opaque Config.freeInByte : (epoch index : Nat) → Byte

/-- I6: what the lane of OUT byte `index` reads as when `index` is at or above OUT_LEN. -/
opaque Config.freeOutByte : (epoch index : Nat) → Byte

/-- I6: what the lane of COND byte `index` reads as when `index` is at or above COND_N. -/
opaque Config.freeCondByte : (epoch index : Nat) → Byte

/-! ### FLAG_NAME -/

/-- R610: the eight conditions of the pan status group (group 0). -/
inductive PanCondition where
  | clockwiseSoftLimit | counterClockwiseSoftLimit | clockwiseHardLimit | counterClockwiseHardLimit
  | timeout | directionError | overload | panResolverFault
  deriving DecidableEq, Repr

/-- R610: the eight conditions of the tilt status group (group 1). -/
inductive TiltCondition where
  | upSoftLimit | downSoftLimit | upHardLimit | downHardLimit
  | timeout | directionError | overload | tiltResolverFault
  deriving DecidableEq, Repr

/-- R610: the eight conditions of the general status group (group 2). The spec does not name the four
motion-direction bits one by one (N2), so they are numbered. -/
inductive GeneralCondition where
  | highResolutionMode | executing | destination | softLimitOverride
  | motionDirection (which : Fin 4)
  deriving DecidableEq, Repr

/-- A condition of any group. -/
inductive Condition where
  | pan (c : PanCondition)
  | tilt (c : TiltCondition)
  | general (c : GeneralCondition)
  deriving DecidableEq, Repr

/-- R612: one choice of the open parameter FLAG_NAME: entry `k` of a list names bit `k` of that group. -/
structure FlagNames where
  pan : List PanCondition
  tilt : List TiltCondition
  general : List GeneralCondition
  deriving DecidableEq, Repr

end Sys2Proof
end

