-- ==== Sys2Proof/Machine/Constants.lean ====
section
/-!
DEFINITION. The fixed constants of spec/00_scope.md R9, the default parameter values of R10 and the
reserved control set of R11.
-/

namespace Sys2Proof.Machine

/-- R9 -/
def stxByte : Byte := 0x02#8
/-- R9 -/
def etxByte : Byte := 0x03#8
/-- R9 -/
def ackByte : Byte := 0x06#8
/-- R9: the byte every escaped value is XORed with. -/
def xorMask : Byte := 0x80#8
/-- R9: the command number of FRM_JOG, FRM_STOP and FRM_SYNC. -/
def cmdJog : Byte := 0x31#8
/-- R9 -/
def cmdAbs : Byte := 0x33#8
/-- R9 -/
def cmdZero : Byte := 0x35#8
/-- R9 -/
def cmdHome : Byte := 0x36#8
/-- R9: bounds of the azimuth in tenths of a degree. -/
def azLimit : Int := 3600
/-- R9: bounds of the elevation in tenths of a degree. -/
def elLimit : Int := 1800
/-- R9: RSP_LEN, the length of a response frame. -/
def rspLen : Nat := 9
/-- R9, R303: the jog flag masks. -/
def jogResolverUnits : Byte := 0x01#8
/-- R9, R303 -/
def jogOverrideSoftLimit : Byte := 0x02#8
/-- R9, R303 -/
def jogStop : Byte := 0x04#8
/-- R9, R303 -/
def jogReset : Byte := 0x08#8
/-- R9, R611: the mask of the one named status bit, PanStatus bit 7. -/
def panCwSoftMask : Byte := 0x80#8
/-- R200: the size of the register window in bytes. -/
def windowSize : Nat := 0x200

end Sys2Proof.Machine

namespace Sys2Proof

/-- R11: the reserved control set CTRL. -/
def Config.ctrl (c : Config) : List Byte :=
  [Machine.stxByte, Machine.etxByte, Machine.ackByte, c.nakByte, c.escCmp]

/-- R10: the default value of every parameter. BASE is OPEN in the spec; the model's machine after
reset has its window at 0 (DESIGN CHOICE, notes/assumptions/2.md), and every statement about all
states holds for every BASE. -/
def Config.standard : Config where
  nakByte := 0x0F#8
  escIntro := 0x1B#8
  escCmp := 0x1B#8
  deltaCmd := 0x34#8
  escChk := false
  inMax := 256
  outMax := 16
  base := 0

/-- R10, C1: the source-literal escape configuration, which breaks W1. -/
def Config.sourceLiteral : Config := { Config.standard with escCmp := 0x27#8 }

end Sys2Proof
end

