-- ==== Sys2Proof/WellFormed.lean ====
section
/-!
DEFINITION. Well-formedness: of a configuration (spec/00_scope.md R12, W1 to W5), of a choice of
FLAG_NAME (spec/43_response_parser.md R612), and of an instruction.
-/

namespace Sys2Proof

/-- R300: an operation word has no operand field, so every instruction is well formed. -/
def Instr.wf (_ : Instr) : Bool := true

/-- R12, W1: a literal introducer in the payload is itself escaped. -/
def Config.w1 (c : Config) : Bool := decide (c.escIntro ∈ c.ctrl)

/-- R12, W2: the second byte of an escape pair is never a control byte. -/
def Config.w2 (c : Config) : Bool := c.ctrl.all fun b => decide (b ^^^ Machine.xorMask ∉ c.ctrl)

/-- R12, W3: DELTA_CMD is no control byte and no other command number. -/
def Config.w3 (c : Config) : Bool :=
  decide (c.deltaCmd ∉ c.ctrl) &&
    decide (c.deltaCmd ∉ [Machine.cmdJog, Machine.cmdAbs, Machine.cmdZero, Machine.cmdHome])

/-- R12, W4: the longest frame fits OUT. -/
def Config.w4 (c : Config) : Bool := decide ((if c.escChk then 15 else 14) ≤ c.outMax)

/-- R12, W5: a response fits IN, and IN fits its window. -/
def Config.w5 (c : Config) : Bool := decide (Machine.rspLen ≤ c.inMax) && decide (c.inMax ≤ 256)

/-- R12: all five conditions. -/
def Config.wf (c : Config) : Bool := c.w1 && c.w2 && c.w3 && c.w4 && c.w5

/-- I15: the configurations under which the rules define every step. One that breaks W3, W4 or W5 is
refused; one that breaks only W1 or W2 still runs. -/
def Config.accepted (c : Config) : Bool := c.w3 && c.w4 && c.w5

/-- R612: FLAG_NAME is a bijection from bits 0 to 7 onto the eight conditions of each group, and
(Pan, 7) is the clockwise soft limit. Eight distinct names out of a type of eight are a bijection. -/
def FlagNames.wf (n : FlagNames) : Bool :=
  decide (n.pan.length = 8) && decide n.pan.Nodup &&
  decide (n.tilt.length = 8) && decide n.tilt.Nodup &&
  decide (n.general.length = 8) && decide n.general.Nodup &&
  decide (n.pan[7]? = some .clockwiseSoftLimit)

end Sys2Proof
end

