-- ==== Sys2Proof/Machine/State.lean ====
section
/-!
DEFINITION. The state of the block (spec/10_state.md R100), the host accesses that drive it, the ways a
step can stop, and the machine right after reset (R116).
-/

namespace Sys2Proof.Machine

/-- R701: the result codes of STATUS.ERR by name; codes 5 to 15 are never written (I13). -/
inductive ErrKind where
  | none
  | rangeError
  | invalidArgument
  | malformedResponse
  | illegalOp
  deriving DecidableEq, Repr

/-- R106: STATUS.ERR_ARG, the operand that caused the last error. -/
inductive ErrArg where
  | none
  | a
  | b
  | c
  deriving DecidableEq, Repr

/-- R108, R310: the nine response registers RSP_ACK to RSP_END, in frame order. -/
structure Response where
  ack : Byte
  cmd : Byte
  pan : Byte
  tilt : Byte
  pstat : Byte
  tstat : Byte
  gstat : Byte
  chk : Byte
  last : Byte
  deriving DecidableEq, Repr

/-- R116, R601: every response register 0. -/
def Response.zero : Response := ⟨0, 0, 0, 0, 0, 0, 0, 0, 0⟩

/-- R800, R801, R210: what the outside world can do to the block, one at a time. `bits` is the width of
an access and `addr` its bus address (BASE + offset). -/
inductive BusEvent where
  /-- A host read. -/
  | read (bits addr : Nat)
  /-- A host write of `data`. -/
  | write (bits addr : Nat) (data : Word)
  /-- The external reset of R800. -/
  | reset
  deriving DecidableEq, Repr

/-- R110: the written bytes of IN, each with its index: indices strictly rising (`Memory.wf`). An index
that is not listed is *unwritten*. -/
abbrev Memory := List Host.Cell

/-- R100: the state of the block, the parameters it runs under, and the model's own view of the host
(`pending`, `lastRead`, `epoch`). -/
structure State where
  /-- The parameters of R10: arguments of the model, never changed by a step (R100, R116). -/
  cfg : Config
  /-- CMD_LAST (R104) -/
  cmdLast : Word
  /-- ARG_A (R101) -/
  argA : Word
  /-- ARG_B (R101) -/
  argB : Word
  /-- ARG_C (R101) -/
  argC : Word
  /-- IN (R110): the bytes written since reset. -/
  inBuf : Memory
  /-- IN_LEN (R110) -/
  inLen : BitVec 9
  /-- OUT (R111): the bytes OUT[0..OUT_LEN), the only ones whose value is specified. -/
  out : List Byte
  /-- OUT_LEN (R111) -/
  outLen : BitVec 5
  /-- RES (R102) -/
  res : Word
  /-- RES2 (R102) -/
  res2 : Word
  /-- STATUS.ERR (R106) -/
  err : ErrKind
  /-- STATUS.ERR_ARG (R106) -/
  errArg : ErrArg
  /-- STATUS.ERR_STICKY (R106) -/
  errSticky : Bool
  /-- ACC (R113) -/
  acc : Byte
  /-- ACC_N (R113), STATUS[10] -/
  accN : Bool
  /-- UNESC_PEND (R114), STATUS[9] -/
  unescPend : Bool
  /-- RSP_ACK to RSP_END (R108) -/
  rsp : Response
  /-- FLAGS (R109) -/
  flags : BitVec 24
  /-- COND (R112): the codes COND[0..COND_N), the only ones whose value is specified. -/
  cond : List Byte
  /-- COND_N (R112) -/
  condN : BitVec 5
  /-- The model's own: the host accesses and resets still to come, in the order the host issues them
  (R210). -/
  pending : List BusEvent
  /-- The model's own: the word the last host read returned, if one has happened since reset. -/
  lastRead : Option Word
  /-- The model's own: how many host writes and resets have been taken; the free values of `Config`
  are functions of it. -/
  epoch : Nat
  deriving DecidableEq, Repr

/-- Why a step stops with a fault. -/
inductive Fault where
  /-- Raised by `step` for a host access whose address lies outside the register window BASE to
  BASE + 0x1FF: the block has no such address (R200). Safe: the model stops where a bus would pass the
  access to some other device. -/
  | outsideWindow (addr : Nat)
  deriving DecidableEq, Repr

/-- Why a step has no meaning. -/
inductive Refusal where
  /-- Raised by an arm of `exec` whose instruction has no meaning yet; no arm does. Safe. -/
  | notModelled (mnemonic : String)
  /-- Raised by `step` for an access that is not 32 bits wide: it has no meaning in the spec and the
  model refuses it (R202, I11). Safe. -/
  | unsupportedWidth (bits : Nat)
  /-- Raised by `step` for a 32-bit access at an offset that is no multiple of 4: it has no meaning in
  the spec and the model refuses it (R202, I11). Safe. -/
  | misalignedAccess (addr : Nat)
  /-- Raised by `step` under a configuration that breaks W3, W4 or W5 of R12 (I15). Safe. -/
  | illFormedConfiguration
  deriving DecidableEq, Repr

/-- What an operation answers. -/
abbrev Result := Host.Outcome State Fault Refusal

/-- R116, R800: the state right after reset under the parameters `c`. No host access is pending. -/
def State.resetWith (c : Config) : State where
  cfg := c
  cmdLast := 0
  argA := 0
  argB := 0
  argC := 0
  inBuf := []
  inLen := 0
  out := []
  outLen := 0
  res := 0
  res2 := 0
  err := .none
  errArg := .none
  errSticky := false
  acc := 0
  accN := false
  unescPend := false
  rsp := Response.zero
  flags := 0
  cond := []
  condN := 0
  pending := []
  lastRead := none
  epoch := 0

/-- R116: the state right after reset under the default parameters of R10. -/
def State.reset : State := State.resetWith Config.standard

end Sys2Proof.Machine
end

