-- ==== Sys2Proof/Machine/Ops.lean ====
section
/-!
DEFINITION. The operations shared by the meanings: the byte memory IN, the escape transform and its
inverse (spec/00_scope.md R16, spec/30_encoding.md R308), the 16-bit field (R17), the checksum
(spec/41_checksum.md R450), the updates of the result registers, and the two ways an operation ends,
`done` and `raise` (spec/60_exceptions.md R710).
-/

namespace Sys2Proof.Machine

/-! ### The byte memory -/

/-- The byte written at an address, if one was written since reset. -/
def Memory.read : Memory → Nat → Option Byte
  | [], _ => none
  | (k, b) :: m, a => if a = k then some b else Memory.read m a

/-- Writes one byte, keeping the addresses strictly rising. -/
def Memory.write : Memory → Nat → Byte → Memory
  | [], a, b => [(a, b)]
  | (k, c) :: m, a, b =>
    if a < k then (a, b) :: (k, c) :: m
    else if a = k then (a, b) :: m
    else (k, c) :: Memory.write m a b

/-- The canonical form: addresses strictly rising. No entry can equal what an unlisted address reads
as, which is *unwritten* and no byte. -/
abbrev Memory.wf (m : Memory) : Prop := m.Pairwise fun x y => x.1 < y.1

/-! ### Escape, field and checksum -/

/-- R16: the escape transform of one logical byte. -/
def esc (c : Config) (b : Byte) : List Byte :=
  if b ∈ c.ctrl then [c.escIntro, b ^^^ xorMask] else [b]

/-- R500: the escape transform of each byte of a payload, in order. -/
def escAll (c : Config) (bs : List Byte) : List Byte := bs.flatMap (esc c)

/-- R308: one logical byte read from the front of a wire sequence, with what follows it; none when the
wire ends first. -/
def takeLogical (c : Config) : List Byte → Option (Byte × List Byte)
  | [] => none
  | x :: rest =>
    if x = c.escIntro then
      match rest with
      | [] => none
      | y :: rest' => some (y ^^^ xorMask, rest')
    else some (x, rest)

/-- R420: two logical bytes read from the front of a wire sequence, low byte first: the 16-bit pattern
and the number of wire bytes consumed; none when the wire ends first. -/
def takeField (c : Config) (wire : List Byte) : Option (Half × Nat) :=
  match takeLogical c wire with
  | none => none
  | some (lo, rest) =>
    match takeLogical c rest with
    | none => none
    | some (hi, rest') => some (hi.setWidth 16 <<< 8 ||| lo.setWidth 16, wire.length - rest'.length)

/-- R17: the 16-bit two's-complement pattern of an integer, `(v + 65536) mod 65536`. -/
def pattern16 (v : Int) : Half := BitVec.ofInt 16 v

/-- R17: the two logical bytes of an integer in int16, low byte first. -/
def le16 (v : Int) : List Byte :=
  [(pattern16 v).extractLsb' 0 8, (pattern16 v).extractLsb' 8 8]

/-- R14, R450: the XOR of a sequence of bytes, folded onto a first one. -/
def xorFrom (c : Byte) (bs : List Byte) : Byte := bs.foldl (· ^^^ ·) c

/-! ### Updates of the registers -/

/-- `RES <- v` -/
def State.setRes (s : State) (v : Word) : State := { s with res := v }

/-- `RES2 <- v` -/
def State.setRes2 (s : State) (v : Word) : State := { s with res2 := v }

/-- R15: `OUT <- bs`, which also writes OUT_LEN; every byte of OUT beyond becomes unspecified. -/
def State.setOut (s : State) (bs : List Byte) : State :=
  { s with out := bs, outLen := BitVec.ofNat 5 bs.length }

/-- `UNESC_PEND <- p` -/
def State.setPend (s : State) (p : Bool) : State := { s with unescPend := p }

/-- `ACC <- a; ACC_N <- n` -/
def State.setAcc (s : State) (a : Byte) (n : Bool) : State := { s with acc := a, accN := n }

/-- The nine response registers written together (R209). -/
def State.setRsp (s : State) (r : Response) : State := { s with rsp := r }

/-- FLAGS, COND and COND_N written together (R209). -/
def State.setCond (s : State) (flags : BitVec 24) (codes : List Byte) : State :=
  { s with flags := flags, cond := codes, condN := BitVec.ofNat 5 codes.length }

/-! ### How an operation ends -/

/-- R710, R15: the successful end. -/
def State.done (s : State) : State := { s with err := .none, errArg := .none }

/-- R710: TAKING AN ERROR, the one exception entry of this block (R721): the code, the operand and the
sticky bit are recorded in STATUS and the operation ends. There is no return from it (R722). -/
def State.raise (s : State) (e : ErrKind) (arg : ErrArg) : State :=
  { s with err := e, errArg := arg, errSticky := true }

/-- R501: a failed build, or a failed ENC16 (R410): no wire bytes are left in OUT, RES is 0 and the
error is recorded. -/
def State.failBuild (s : State) (e : ErrKind) (arg : ErrArg) : State :=
  ((s.setOut []).setRes 0).raise e arg

/-! ### The frame builder -/

/-- R500: the logical checksum of a command frame, over the command number and the payload before the
escape transform (R452). -/
def frameLrc (cmd : Byte) (payload : List Byte) : Byte := xorFrom cmd payload

/-- R500: the checksum as it goes on the wire. -/
def lrcBytes (c : Config) (lrc : Byte) : List Byte := if c.escChk then esc c lrc else [lrc]

/-- R500, R305: the wire bytes of a command frame. -/
def frameBytes (c : Config) (cmd : Byte) (payload : List Byte) : List Byte :=
  [stxByte, cmd] ++ escAll c payload ++ lrcBytes c (frameLrc cmd payload) ++ [etxByte]

/-- R500: `build(cmd, p)`, the successful end of every frame operation. -/
def State.build (s : State) (cmd : Byte) (payload : List Byte) : State :=
  ((s.setOut (frameBytes s.cfg cmd payload)).setRes ((frameLrc cmd payload).setWidth 32)).done

end Sys2Proof.Machine
end

