-- ==== Sys2Proof/Machine/Operands.lean ====
section
/-!
DEFINITION. The operand forms of spec/30_encoding.md R303.
-/

namespace Sys2Proof.Machine

/-- R303, int: an operand register read as a signed 32-bit value. -/
def s32 (w : Word) : Int := w.toInt

/-- R13: the range of a 16-bit signed field. -/
def inInt16 (v : Int) : Bool := decide (-32768 ≤ v) && decide (v ≤ 32767)

/-- R512: a symmetric inclusive range. -/
def within (limit v : Int) : Bool := decide (-limit ≤ v) && decide (v ≤ limit)

/-- R303, byte: bits 7:0 of an operand register; bits 31:8 are ignored. -/
def byteOperand (w : Word) : Byte := w.extractLsb' 0 8

/-- R303, flags: no bit of ARG_A outside 3:0 is set. -/
def flagsLegal (w : Word) : Bool := decide (w.extractLsb' 4 28 = 0#28)

/-- R303, status triple: PanStatus. -/
def triplePan (w : Word) : Byte := w.extractLsb' 0 8

/-- R303, status triple: TiltStatus. -/
def tripleTilt (w : Word) : Byte := w.extractLsb' 8 8

/-- R303, status triple: GenStatus. -/
def tripleGen (w : Word) : Byte := w.extractLsb' 16 8

/-- R110, I5: one byte of IN as an operation or a host read finds it: the byte the host wrote, or a free
value where it has written none since reset. -/
def State.inByte (s : State) (i : Nat) : Byte :=
  match s.inBuf.read i with
  | some b => b
  | none => Config.freeInByte s.epoch i

/-- R303: the operand IN[0..IN_LEN). -/
def State.inSeq (s : State) : List Byte := (List.range s.inLen.toNat).map s.inByte

end Sys2Proof.Machine
end

