-- ==== Sys2Proof/Machine/Flags.lean ====
section
/-!
DEFINITION. The STATUS word (spec/10_state.md R106) and the decoder of the response's status flags
(spec/43_response_parser.md R620), with the names of the conditions (R610 to R612).
-/

namespace Sys2Proof.Machine

/-- R701: the number of a result code. -/
def ErrKind.code : ErrKind → BitVec 4
  | .none => 0
  | .rangeError => 1
  | .invalidArgument => 2
  | .malformedResponse => 3
  | .illegalOp => 4

/-- R106, R710: the number of an operand. -/
def ErrArg.code : ErrArg → BitVec 2
  | .none => 0
  | .a => 1
  | .b => 2
  | .c => 3

/-- R106: STATUS as the host reads it; bits 7:6 and 31:11 read 0. -/
def State.statusWord (s : State) : Word :=
  s.err.code.setWidth 32 ||| s.errArg.code.setWidth 32 <<< 4 |||
    (BitVec.ofBool s.errSticky).setWidth 32 <<< 8 ||| (BitVec.ofBool s.unescPend).setWidth 32 <<< 9 |||
    (BitVec.ofBool s.accN).setWidth 32 <<< 10

/-- R109: FLAGS from its three bytes. -/
def flagsOf (p t g : Byte) : BitVec 24 :=
  g.setWidth 24 <<< 16 ||| t.setWidth 24 <<< 8 ||| p.setWidth 24

/-- R311: the condition code of bit `k` of status group `g`. -/
def condCode (g k : Nat) : Byte := BitVec.ofNat 8 (8 * g + k)

/-- R620: the codes of one status group, most significant bit first. -/
def groupCodes (g : Nat) (b : Byte) : List Byte :=
  [7, 6, 5, 4, 3, 2, 1, 0].filterMap fun k => if b.getLsbD k then some (condCode g k) else none

/-- R620: the codes of all three groups: Pan, then Tilt, then General. -/
def condCodes (p t g : Byte) : List Byte := groupCodes 0 p ++ groupCodes 1 t ++ groupCodes 2 g

/-- R620: `decode_flags(p, t, g)`. -/
def State.decodeFlags (s : State) (p t g : Byte) : State :=
  s.setCond (flagsOf p t g) (condCodes p t g)

/-- R610 to R612: the name of a condition code under a choice of FLAG_NAME; none for a code that is
never produced (R311). -/
def conditionName (n : FlagNames) (code : Byte) : Option Condition :=
  let k := code.toNat % 8
  match code.toNat / 8 with
  | 0 => n.pan[k]?.map .pan
  | 1 => n.tilt[k]?.map .tilt
  | 2 => n.general[k]?.map .general
  | _ => none

/-- R610: the names of the active conditions, in the order of COND. -/
def State.conditions (s : State) (n : FlagNames) : List (Option Condition) :=
  s.cond.map (conditionName n)

end Sys2Proof.Machine
end

