-- ==== Sys2Proof/Machine/Bus.lean ====
section
/-!
DEFINITION. The host register window (spec/20_memory.md): which accesses have a meaning (R202), the
register map (R201), the packing of the byte buffers (R203), and the external reset
(spec/70_reset_and_hazards.md R800). A write to CMD is in Machine/Perform.lean.
-/

namespace Sys2Proof.Machine

/-- R202: what an access is. -/
inductive AccessKind where
  /-- A 32-bit access at a word-aligned offset inside the window. -/
  | register (off : Nat)
  /-- An address that is not in the window. -/
  | outside
  /-- An access that is not 32 bits wide. -/
  | badWidth
  /-- A 32-bit access at an offset that is no multiple of 4. -/
  | misaligned
  deriving DecidableEq, Repr

/-- R200, R202: the classification of an access of `bits` bits at bus address `addr`. -/
def classifyAccess (c : Config) (bits addr : Nat) : AccessKind :=
  if addr < c.base ∨ c.base + windowSize ≤ addr then .outside
  else if bits ≠ 32 then .badWidth
  else if (addr - c.base) % 4 ≠ 0 then .misaligned
  else .register (addr - c.base)

/-! ### Packing (R203) -/

/-- Lane `j` of a word: bits `8*j+7 : 8*j`. -/
def laneByte (v : Word) (j : Nat) : Byte := v.extractLsb' (8 * j) 8

/-- Word `k` of a packed buffer whose byte `i` reads as `f i`. -/
def packedWord (f : Nat → Byte) (k : Nat) : Word :=
  wordOfBytes (f (4 * k)) (f (4 * k + 1)) (f (4 * k + 2)) (f (4 * k + 3))

/-- R203, R111: the lane of OUT byte `i`; free at OUT_LEN and above. -/
def State.outLane (s : State) (i : Nat) : Byte :=
  if i < s.outLen.toNat then s.out.getD i (Config.freeOutByte s.epoch i)
  else Config.freeOutByte s.epoch i

/-- R203, R112: the lane of COND byte `i`; free at COND_N and above. -/
def State.condLane (s : State) (i : Nat) : Byte :=
  if i < s.condN.toNat then s.cond.getD i (Config.freeCondByte s.epoch i)
  else Config.freeCondByte s.epoch i

/-- R203: the lane of IN byte `i`; a lane at or above IN_MAX is reserved and reads 0 (R202). -/
def State.inLane (s : State) (i : Nat) : Byte := if i < s.cfg.inMax then s.inByte i else 0

/-! ### Reads (R201) -/

/-- RSP0 -/
def State.rsp0 (s : State) : Word := wordOfBytes s.rsp.ack s.rsp.cmd s.rsp.pan s.rsp.tilt

/-- RSP1 -/
def State.rsp1 (s : State) : Word := wordOfBytes s.rsp.pstat s.rsp.tstat s.rsp.gstat s.rsp.chk

/-- RSP2 -/
def State.rsp2 (s : State) : Word := s.rsp.last.setWidth 32

/-- R201: the word a host read of an offset returns; an offset the map does not list reads 0 (R202). -/
def State.readRegister (s : State) (off : Nat) : Word :=
  if off = 0x000 then s.cmdLast
  else if off = 0x004 then s.argA
  else if off = 0x008 then s.argB
  else if off = 0x00C then s.argC
  else if off = 0x010 then s.inLen.setWidth 32
  else if off = 0x014 then s.statusWord
  else if off = 0x018 then s.res
  else if off = 0x01C then s.res2
  else if off = 0x020 then s.outLen.setWidth 32
  else if off = 0x024 then s.acc.setWidth 32
  else if off = 0x028 then s.flags.setWidth 32
  else if off = 0x02C then s.condN.setWidth 32
  else if off = 0x030 then s.rsp0
  else if off = 0x034 then s.rsp1
  else if off = 0x038 then s.rsp2
  else if 0x040 ≤ off ∧ off < 0x050 then packedWord s.outLane ((off - 0x040) / 4)
  else if 0x060 ≤ off ∧ off < 0x078 then packedWord s.condLane ((off - 0x060) / 4)
  else if 0x100 ≤ off ∧ off < 0x200 then packedWord s.inLane ((off - 0x100) / 4)
  else 0

/-! ### What an access does to the fields outside the register map -/

/-- The pending accesses that are left. -/
def State.setPending (s : State) (es : List BusEvent) : State := { s with pending := es }

/-- The word a host read returned. -/
def State.setLastRead (s : State) (v : Word) : State := { s with lastRead := some v }

/-- One more host write taken: the epoch of the free values moves on (notes/assumptions/7.md). -/
def State.tick (s : State) : State := { s with epoch := s.epoch + 1 }

/-! ### Writes (R201, R202) -/

/-- R104, R300: `CMD_LAST <- w` -/
def State.setCmdLast (s : State) (w : Word) : State := { s with cmdLast := w }

/-- R101, R201: a host write to ARG_A. -/
def State.setArgA (s : State) (v : Word) : State := { s with argA := v }

/-- R101, R201: a host write to ARG_B. -/
def State.setArgB (s : State) (v : Word) : State := { s with argB := v }

/-- R101, R201: a host write to ARG_C. -/
def State.setArgC (s : State) (v : Word) : State := { s with argC := v }

/-- R110: `IN_LEN <- min(v, IN_MAX)`, v read as a whole unsigned word. -/
def State.setInLen (s : State) (v : Word) : State :=
  { s with inLen := BitVec.ofNat 9 (min v.toNat s.cfg.inMax) }

/-- R203: one IN byte written; a byte at or above IN_MAX is reserved and the write is ignored (R202). -/
def State.writeIn (s : State) (i : Nat) (b : Byte) : State :=
  if i < s.cfg.inMax then { s with inBuf := s.inBuf.write i b } else s

/-- R203: a host write to INWk: IN bytes 4k to 4k+3 from the lanes of the word. -/
def State.writeInWord (s : State) (k : Nat) (v : Word) : State :=
  (((s.writeIn (4 * k) (laneByte v 0)).writeIn (4 * k + 1) (laneByte v 1)).writeIn
    (4 * k + 2) (laneByte v 2)).writeIn (4 * k + 3) (laneByte v 3)

/-- R106, R204: a host write to STATUS: bit 8 set clears ERR_STICKY, every other bit is ignored. -/
def State.writeStatus (s : State) (v : Word) : State :=
  if v.getLsbD 8 then { s with errSticky := false } else s

/-- R201, R202: a host write to an offset other than CMD; one to a read-only register or to an offset
the map does not list is ignored. -/
def State.writeRegister (s : State) (off : Nat) (v : Word) : State :=
  if off = 0x004 then s.setArgA v
  else if off = 0x008 then s.setArgB v
  else if off = 0x00C then s.setArgC v
  else if off = 0x010 then s.setInLen v
  else if off = 0x014 then s.writeStatus v
  else if 0x100 ≤ off ∧ off < 0x200 then s.writeInWord ((off - 0x100) / 4) v
  else s

/-! ### Reset -/

/-- R800: the external reset: every piece of state takes its reset value and the parameters stay. What
the host does next is not the block's to forget, and the free values go on (notes/assumptions/13.md). -/
def State.externalReset (s : State) : State :=
  { State.resetWith s.cfg with pending := s.pending, epoch := s.epoch + 1 }

end Sys2Proof.Machine
end

