-- ==== Sys2Proof/Machine/Checksum.lean ====
section
/-!
DEFINITION. The XOR checksum accumulator (spec/41_checksum.md).
-/

namespace Sys2Proof.Machine

/-- CHK_CLR (R460) -/
def execChkClr (s : State) : Result :=
  .next (s.setAcc 0 false).done

/-- CHK_ADD (R461) -/
def execChkAdd (s : State) : Result :=
  .next (s.setAcc (s.acc ^^^ byteOperand s.argA) true).done

/-- CHK_RD (R462) -/
def execChkRd (s : State) : Result :=
  if s.accN then .next (s.setRes (s.acc.setWidth 32)).done
  else .next ((s.setRes 0).raise .invalidArgument .none)

/-- CHK_SEQ (R463) -/
def execChkSeq (s : State) : Result :=
  match s.inSeq with
  | [] => .next ((s.setRes 0).raise .invalidArgument .none)
  | c :: rest => .next (s.setRes ((xorFrom c rest).setWidth 32)).done

end Sys2Proof.Machine
end

