-- ==== Sys2Proof/Machine/Codec.lean ====
section
/-!
DEFINITION. The escape codec and the signed 16-bit field codec (spec/40_field_codec.md).
-/

namespace Sys2Proof.Machine

/-- ESC (R400) -/
def execEsc (s : State) : Result :=
  .next (s.setOut (esc s.cfg (byteOperand s.argA))).done

/-- UNESC (R402) -/
def execUnesc (s : State) : Result :=
  let x := byteOperand s.argA
  if s.unescPend then
    .next (((s.setRes ((x ^^^ xorMask).setWidth 32)).setRes2 1).setPend false).done
  else if x = s.cfg.escIntro then
    .next (((s.setRes 0).setRes2 0).setPend true).done
  else
    .next ((s.setRes (x.setWidth 32)).setRes2 1).done

/-- UNESC_RST (R403) -/
def execUnescRst (s : State) : Result :=
  .next (s.setPend false).done

/-- ENC16 (R410) -/
def execEnc16 (s : State) : Result :=
  let v := s32 s.argA
  if inInt16 v then
    .next ((s.setOut (escAll s.cfg (le16 v))).setRes ((pattern16 v).setWidth 32)).done
  else
    .next (s.failBuild .rangeError .a)

/-- DEC16 (R420) -/
def execDec16 (s : State) : Result :=
  match takeField s.cfg s.inSeq with
  | some (v, n) => .next ((s.setRes (v.signExtend 32)).setRes2 (BitVec.ofNat 32 n)).done
  | none => .next (((s.setRes 0).setRes2 0).raise .malformedResponse .none)

end Sys2Proof.Machine
end

