-- ==== Sys2Proof/Machine/Frame.lean ====
section
/-!
DEFINITION. The frame builder (spec/42_frame_builder.md): operands are checked in the order A, B, C
(R502) before any output is written (R501).
-/

namespace Sys2Proof.Machine

/-- FRM_JOG (R510) -/
def execFrmJog (s : State) : Result :=
  if !flagsLegal s.argA then .next (s.failBuild .invalidArgument .a)
  else if !inInt16 (s32 s.argB) then .next (s.failBuild .rangeError .b)
  else if !inInt16 (s32 s.argC) then .next (s.failBuild .rangeError .c)
  else .next (s.build cmdJog ([byteOperand s.argA] ++ le16 (s32 s.argB) ++ le16 (s32 s.argC)))

/-- FRM_STOP (R511) -/
def execFrmStop (s : State) : Result :=
  .next (s.build cmdJog ([jogStop] ++ le16 0 ++ le16 0))

/-- FRM_ABS (R512) -/
def execFrmAbs (s : State) : Result :=
  if !within azLimit (s32 s.argA) then .next (s.failBuild .rangeError .a)
  else if !within elLimit (s32 s.argB) then .next (s.failBuild .rangeError .b)
  else .next (s.build cmdAbs (le16 (s32 s.argA) ++ le16 (s32 s.argB)))

/-- FRM_DELTA (R513) -/
def execFrmDelta (s : State) : Result :=
  if !inInt16 (s32 s.argA) then .next (s.failBuild .rangeError .a)
  else if !inInt16 (s32 s.argB) then .next (s.failBuild .rangeError .b)
  else .next (s.build s.cfg.deltaCmd (le16 (s32 s.argA) ++ le16 (s32 s.argB)))

/-- FRM_ZERO (R514) -/
def execFrmZero (s : State) : Result :=
  .next (s.build cmdZero [])

/-- FRM_HOME (R515) -/
def execFrmHome (s : State) : Result :=
  .next (s.build cmdHome [])

/-- FRM_SYNC (R516) -/
def execFrmSync (s : State) : Result :=
  .next (s.build cmdJog [])

end Sys2Proof.Machine
end

