-- ==== Sys2Proof/Machine/Parser.lean ====
section
/-!
DEFINITION. The response frame parser and the status-flag decoder (spec/43_response_parser.md).
-/

namespace Sys2Proof.Machine

/-- R600: the response fields at IN[0] to IN[8]. -/
def State.responseFields (s : State) : Response where
  ack := s.inByte 0
  cmd := s.inByte 1
  pan := s.inByte 2
  tilt := s.inByte 3
  pstat := s.inByte 4
  tstat := s.inByte 5
  gstat := s.inByte 6
  chk := s.inByte 7
  last := s.inByte 8

/-- RSP_PARSE (R601); no field's value is checked (R602). -/
def execRspParse (s : State) : Result :=
  if s.inLen.toNat < rspLen then
    .next (((s.setRsp Response.zero).setCond 0 []).raise .malformedResponse .none)
  else
    .next ((s.setRsp s.responseFields).decodeFlags (s.inByte 4) (s.inByte 5) (s.inByte 6)).done

/-- FLG_DECODE (R621) -/
def execFlgDecode (s : State) : Result :=
  .next (s.decodeFlags (triplePan s.argA) (tripleTilt s.argA) (tripleGen s.argA)).done

end Sys2Proof.Machine
end

