-- ==== Sys2Proof/Machine/Dispatch.lean ====
section
/-!
DEFINITION. One arm per operation, each one call of its meaning.
-/

namespace Sys2Proof.Machine

def exec (i : Instr) (s : State) : Host.Outcome State Fault Refusal :=
  match i with
  | .esc => Sys2Proof.Machine.execEsc s
  | .unesc => Sys2Proof.Machine.execUnesc s
  | .unescRst => Sys2Proof.Machine.execUnescRst s
  | .enc16 => Sys2Proof.Machine.execEnc16 s
  | .dec16 => Sys2Proof.Machine.execDec16 s
  | .chkClr => Sys2Proof.Machine.execChkClr s
  | .chkAdd => Sys2Proof.Machine.execChkAdd s
  | .chkRd => Sys2Proof.Machine.execChkRd s
  | .chkSeq => Sys2Proof.Machine.execChkSeq s
  | .frmJog => Sys2Proof.Machine.execFrmJog s
  | .frmStop => Sys2Proof.Machine.execFrmStop s
  | .frmAbs => Sys2Proof.Machine.execFrmAbs s
  | .frmDelta => Sys2Proof.Machine.execFrmDelta s
  | .frmZero => Sys2Proof.Machine.execFrmZero s
  | .frmHome => Sys2Proof.Machine.execFrmHome s
  | .frmSync => Sys2Proof.Machine.execFrmSync s
  | .rspParse => Sys2Proof.Machine.execRspParse s
  | .flgDecode => Sys2Proof.Machine.execFlgDecode s

end Sys2Proof.Machine
end

