-- ==== Sys2Proof/Machine/Perform.lean ====
section
/-!
DEFINITION. One host access or reset taken by the block: the CMD write that starts an operation
(spec/30_encoding.md R300, R301) and the accesses of spec/20_memory.md R202.
-/

namespace Sys2Proof.Machine

/-- R300, R301, R705: a host write of `w` to CMD: `CMD_LAST <- w`, then exactly one operation; a word
that decodes to ILLEGAL raises IllegalOp. -/
def State.performCommand (s : State) (w : Word) : Result :=
  match decode w with
  | .ok i => exec i (s.setCmdLast w)
  | .error _ => .next ((s.setCmdLast w).raise .illegalOp .none)

/-- R201: a 32-bit host write at a word-aligned offset of the window. -/
def State.takeWrite (s : State) (off : Nat) (v : Word) : Result :=
  if off = 0x000 then s.performCommand v else .next (s.writeRegister off v)

/-- R202, R204, R208: one host access or reset, as one atomic step. A write and a reset move the epoch
of the free values on; a read does not. -/
def State.takeEvent (s : State) : BusEvent → Result
  | .reset => .next s.externalReset
  | .read bits addr =>
    match classifyAccess s.cfg bits addr with
    | .register off => .next (s.setLastRead (s.readRegister off))
    | .outside => .fault (.outsideWindow addr)
    | .badWidth => .refused (.unsupportedWidth bits)
    | .misaligned => .refused (.misalignedAccess addr)
  | .write bits addr v =>
    match classifyAccess s.cfg bits addr with
    | .register off => s.tick.takeWrite off v
    | .outside => .fault (.outsideWindow addr)
    | .badWidth => .refused (.unsupportedWidth bits)
    | .misaligned => .refused (.misalignedAccess addr)

/-- The bus write that starts an operation (R300). -/
def State.commandWrite (s : State) (w : Word) : BusEvent := .write 32 (s.cfg.base + 0x000) w

/-- The word of an instruction of the opcode table: its low `nbits` bits, cut to one operation word. -/
def tableWord (nbits w : Nat) : Word := BitVec.ofNat 32 (w % 2 ^ nbits)

end Sys2Proof.Machine
end

