-- ==== Sys2Proof/Machine/Step.lean ====
section
/-!
DEFINITION. One step of the machine: the block takes the host's next access (spec/20_memory.md R210); it
makes no move of its own (spec/70_reset_and_hazards.md R801).
-/

namespace Sys2Proof.Machine

/-- R801, R210, I15: with nothing pending the block is idle and its state stays; otherwise it takes the
first pending access. A configuration that breaks W3, W4 or W5 is refused. -/
def step (s : State) : Host.Outcome State Fault Refusal :=
  if s.cfg.accepted then
    match s.pending with
    | [] => .next s
    | e :: rest => (s.setPending rest).takeEvent e
  else .refused .illFormedConfiguration

/-- `s` with the host write that starts the operation of the table word `w` placed first among the
pending accesses: the block fetches nothing (R213), so this is where the next operation comes from. -/
def State.withFetchWord (s : State) (nbits w : Nat) : State :=
  { s with pending := s.commandWrite (tableWord nbits w) :: s.pending }

end Sys2Proof.Machine
end

