-- ==== Sys2Proof/Machine/Assembly.lean ====
section
/-!
DEFINITION. The host assembly language of spec/30_encoding.md R312 and its expansion into host bus
accesses (R313). It is a notation for host programs: the block never sees it.
-/

namespace Sys2Proof.Machine

/-- R312, R313: one statement. A register is given by its offset. -/
inductive Stmt where
  /-- `MNEMONIC v1, v2, v3`, with at most three operands, which go to A, B and C in that order. -/
  | op (i : Instr) (operands : List Int)
  /-- `WR reg, v` -/
  | wr (off : Nat) (v : Int)
  /-- `RD reg` -/
  | rd (off : Nat)
  /-- `LDIN b0, …, b(n-1)` -/
  | ldin (bs : List Byte)
  /-- `CLRSTICKY` -/
  | clrSticky
  /-- `STOP`, an alias of `FRM_STOP`. -/
  | stop
  /-- `SYNC`, an alias of `FRM_SYNC`. -/
  | sync
  deriving DecidableEq, Repr

/-- R312: the word of a value: a negative integer means its 32-bit two's complement. -/
def valueWord (v : Int) : Word := BitVec.ofInt 32 v

/-- R313: the packed words of LDIN from word `k` of IN on, missing bytes 0. -/
def ldinWords : (k : Nat) → List Byte → List (Nat × Word)
  | _, [] => []
  | k, [b0] => [(0x100 + 4 * k, wordOfBytes b0 0 0 0)]
  | k, [b0, b1] => [(0x100 + 4 * k, wordOfBytes b0 b1 0 0)]
  | k, [b0, b1, b2] => [(0x100 + 4 * k, wordOfBytes b0 b1 b2 0)]
  | k, b0 :: b1 :: b2 :: b3 :: rest =>
    (0x100 + 4 * k, wordOfBytes b0 b1 b2 b3) :: ldinWords (k + 1) rest

/-- R313: an operation's expansion: its operands to A, B and C, then its word to CMD. -/
def opWrites (i : Instr) (operands : List Int) : List (Nat × Word) :=
  List.zip [0x004, 0x008, 0x00C] (operands.map valueWord) ++ [(0x000, encode i)]

/-- R313: the host writes of a statement, each an (offset, word) pair; `RD` writes nothing. -/
def Stmt.writes : Stmt → List (Nat × Word)
  | .op i operands => opWrites i operands
  | .wr off v => [(off, valueWord v)]
  | .rd _ => []
  | .ldin bs => ldinWords 0 bs ++ [(0x010, BitVec.ofNat 32 bs.length)]
  | .clrSticky => [(0x014, 0x100#32)]
  | .stop => opWrites .frmStop []
  | .sync => opWrites .frmSync []

/-- R313: the bus accesses of a statement, at BASE + offset. -/
def Stmt.events (base : Nat) : Stmt → List BusEvent
  | .rd off => [.read 32 (base + off)]
  | st => st.writes.map fun w => .write 32 (base + w.1) w.2

/-- The bus accesses of a host program. -/
def programEvents (base : Nat) (p : List Stmt) : List BusEvent := p.flatMap (Stmt.events base)

/-! ### Reading one line of the language (R312) -/

/-- The mnemonic of an operation (R302). -/
def mnemonicOf : Instr → String
  | .esc => "ESC"
  | .unesc => "UNESC"
  | .unescRst => "UNESC_RST"
  | .enc16 => "ENC16"
  | .dec16 => "DEC16"
  | .chkClr => "CHK_CLR"
  | .chkAdd => "CHK_ADD"
  | .chkRd => "CHK_RD"
  | .chkSeq => "CHK_SEQ"
  | .frmJog => "FRM_JOG"
  | .frmStop => "FRM_STOP"
  | .frmAbs => "FRM_ABS"
  | .frmDelta => "FRM_DELTA"
  | .frmZero => "FRM_ZERO"
  | .frmHome => "FRM_HOME"
  | .frmSync => "FRM_SYNC"
  | .rspParse => "RSP_PARSE"
  | .flgDecode => "FLG_DECODE"

/-- R302: the operations in the order of the table. -/
def allOperations : List Instr :=
  [.esc, .unesc, .unescRst, .enc16, .dec16, .chkClr, .chkAdd, .chkRd, .chkSeq, .frmJog, .frmStop,
    .frmAbs, .frmDelta, .frmZero, .frmHome, .frmSync, .rspParse, .flgDecode]

/-- R201: the registers with a name of their own. -/
def registerNames : List (String × Nat) :=
  [("CMD", 0x000), ("ARG_A", 0x004), ("ARG_B", 0x008), ("ARG_C", 0x00C), ("IN_LEN", 0x010),
    ("STATUS", 0x014), ("RES", 0x018), ("RES2", 0x01C), ("OUT_LEN", 0x020), ("ACC", 0x024),
    ("FLAGS", 0x028), ("COND_N", 0x02C), ("RSP0", 0x030), ("RSP1", 0x034), ("RSP2", 0x038)]

/-- R201: the packed buffers: the name before the word number, the first offset, the number of words. -/
def bufferNames : List (String × Nat × Nat) :=
  [("OUTW", 0x040, 4), ("CONDW", 0x060, 6), ("INW", 0x100, 64)]

/-- The value of one digit. -/
def digitOf (ch : Char) : Option Nat :=
  if '0'.toNat ≤ ch.toNat ∧ ch.toNat ≤ '9'.toNat then some (ch.toNat - '0'.toNat)
  else if 'a'.toNat ≤ ch.toNat ∧ ch.toNat ≤ 'f'.toNat then some (ch.toNat - 'a'.toNat + 10)
  else if 'A'.toNat ≤ ch.toNat ∧ ch.toNat ≤ 'F'.toNat then some (ch.toNat - 'A'.toNat + 10)
  else none

/-- The number the digits spell after those already read. -/
def digitsFrom (radix : Nat) : (seen : Nat) → List Char → Option Nat
  | n, [] => some n
  | n, ch :: rest =>
    match digitOf ch with
    | some d => if d < radix then digitsFrom radix (radix * n + d) rest else none
    | none => none

/-- A number of at least one digit. -/
def numberOf (radix : Nat) : List Char → Option Nat
  | [] => none
  | cs => digitsFrom radix 0 cs

/-- R312: a value: a decimal integer, which may be negative, or a `0x` hex literal. -/
def valueOf : List Char → Option Int
  | '-' :: cs => (numberOf 10 cs).map fun n => -(n : Int)
  | '0' :: 'x' :: cs => (numberOf 16 cs).map Int.ofNat
  | cs => (numberOf 10 cs).map Int.ofNat

/-- A space or a tab. -/
def isBlank (ch : Char) : Bool := ch == ' ' || ch == '\t'

/-- A piece of text without the blanks around it. -/
def trimBlanks (cs : List Char) : List Char :=
  ((cs.dropWhile isBlank).reverse.dropWhile isBlank).reverse

/-- R312: a register's offset from its name. -/
def registerOf (name : List Char) : Option Nat :=
  match registerNames.find? fun r => r.1.toList == name with
  | some r => some r.2
  | none =>
    bufferNames.findSome? fun b =>
      if b.1.toList.isPrefixOf name then
        match numberOf 10 (name.drop b.1.toList.length) with
        | some k => if k < b.2.2 then some (b.2.1 + 4 * k) else none
        | none => none
      else none

/-- A value that is a byte. -/
def byteOf (cs : List Char) : Option Byte :=
  match valueOf cs with
  | some v => if 0 ≤ v ∧ v < 256 then some (BitVec.ofInt 8 v) else none
  | none => none

/-- R312: the statement of a first word and the pieces between commas after it; none if there is none. -/
def statementOf (word : List Char) (pieces : List (List Char)) : Option Stmt :=
  match allOperations.find? fun i => (mnemonicOf i).toList == word with
  | some i => if pieces.length ≤ 3 then (pieces.mapM valueOf).map (.op i) else none
  | none =>
    if word == "LDIN".toList then (pieces.mapM byteOf).map .ldin
    else if word == "WR".toList then
      match pieces with
      | [r, v] => do return .wr (← registerOf r) (← valueOf v)
      | _ => none
    else if word == "RD".toList then
      match pieces with
      | [r] => (registerOf r).map .rd
      | _ => none
    else if !pieces.isEmpty then none
    else if word == "CLRSTICKY".toList then some .clrSticky
    else if word == "STOP".toList then some .stop
    else if word == "SYNC".toList then some .sync
    else none

/-- R312: one line: at most one statement; a `;` starts a comment; none if the line is not of the
language. -/
def lineOf (line : List Char) : Option (List Stmt) :=
  let text := trimBlanks (line.takeWhile (· != ';'))
  let word := text.takeWhile fun ch => !isBlank ch
  let rest := trimBlanks (text.drop word.length)
  if text.isEmpty then some []
  else
    let pieces := if rest.isEmpty then [] else (rest.splitOn ',').map trimBlanks
    (statementOf word pieces).map fun st => [st]

end Sys2Proof.Machine
end

