-- ==== Sys2Proof/Machine/HostSide.lean ====
section
/-!
DEFINITION. What spec/70_reset_and_hazards.md R810 to R813 and spec/42_frame_builder.md R521 ask of the
host that drives the block. These are rules for the host, outside the block's step: nothing in
Machine/Step.lean uses them. The serial link itself is out of scope (spec/00_scope.md R5).
-/

namespace Sys2Proof.Machine

/-- R521: an angle of `num / den` degrees as the integer operand of FRM_ABS, multiplied by 10 and
truncated toward zero; none when the result does not fit a signed 32-bit word. The product is exact: the
host's floating-point format is a parameter of the host (I7, notes/assumptions/19.md). Whether the product
itself or its truncation must fit is open in R521 ('the product'); DESIGN CHOICE: the truncation is
tested, so a product of 2147483647.5 gives 2147483647 (notes/assumptions/24.md). -/
def hostTenths (num : Int) (den : Nat) : Option Int :=
  let v := (10 * num).tdiv den
  if den = 0 then none
  else if -2147483648 ≤ v ∧ v ≤ 2147483647 then some v
  else none

/-- R813: the bytes the host may hand to the link after an operation: none after one that ended in an
error, none when OUT is empty. -/
def State.sendable (s : State) : Option (List Byte) :=
  if s.err = .none ∧ s.outLen ≠ 0 then some s.out else none

/-- R810: the statements of one exchange up to the response: the probe, then the command. The host
writes OUT to the link after each. -/
def exchangeStatements (command : Stmt) : List Stmt := [.sync, command]

/-- R812: the statements that load what the host read from the link, in its chunks, and parse it: only
the first IN_MAX bytes are kept. -/
def responseStatements (c : Config) (chunks : List (List Byte)) : List Stmt :=
  [.ldin (chunks.flatten.take c.inMax), .op .rspParse []]

end Sys2Proof.Machine
end

