-- ==== Sys2Proof/Safety.lean ====
section
/-!
DEFINITION. The terms the statements use: the invariant of the block, what an operation leaves as it was,
how it ends, what IN holds, and what a wire sequence and a list of condition codes stand for.
-/

namespace Sys2Proof.Machine

/-! ### The invariant -/

/-- What every state of the block satisfies under a configuration that is not refused. -/
structure State.Inv (s : State) : Prop where
  /-- The parameters are accepted (I15). -/
  accepted : s.cfg.accepted = true
  /-- IN is in its canonical form. -/
  inCanonical : s.inBuf.wf
  /-- Only bytes below IN_MAX exist (R110). -/
  inBounded : ∀ x ∈ s.inBuf, x.1 < s.cfg.inMax
  /-- IN_LEN is at most IN_MAX (R110). -/
  inLenBounded : s.inLen.toNat ≤ s.cfg.inMax
  /-- OUT_LEN counts the specified bytes of OUT (R111). -/
  outCounted : s.out.length = s.outLen.toNat
  /-- OUT_LEN is at most OUT_MAX (R111). -/
  outBounded : s.outLen.toNat ≤ s.cfg.outMax
  /-- COND_N counts the specified bytes of COND (R112). -/
  condCounted : s.cond.length = s.condN.toNat
  /-- COND_N is at most 24 (R112). -/
  condBounded : s.condN.toNat ≤ 24
  /-- COND holds the codes of the bits set in FLAGS (R109, R112, R620). -/
  condOfFlags :
    s.cond = condCodes (s.flags.extractLsb' 0 8) (s.flags.extractLsb' 8 8) (s.flags.extractLsb' 16 8)
  /-- An empty accumulator is 0 (R113, R460). -/
  accEmpty : s.accN = false → s.acc = 0
  /-- No operand is blamed for no error (R106, R710). -/
  argOfError : s.err = .none → s.errArg = .none

/-! ### What an operation leaves as it was -/

/-- What no operation writes: the parameters, CMD_LAST, the operand registers, IN and IN_LEN, and the
model's own fields. IN is compared through the read of one byte. -/
structure SameInputs (s t : State) : Prop where
  cfg : t.cfg = s.cfg
  cmdLast : t.cmdLast = s.cmdLast
  argA : t.argA = s.argA
  argB : t.argB = s.argB
  argC : t.argC = s.argC
  inLen : t.inLen = s.inLen
  inWritten : ∀ a, t.inBuf.read a = s.inBuf.read a
  inByte : ∀ a, t.inByte a = s.inByte a
  pending : t.pending = s.pending
  lastRead : t.lastRead = s.lastRead
  epoch : t.epoch = s.epoch

/-- OUT and OUT_LEN are as they were. -/
structure SameOut (s t : State) : Prop where
  out : t.out = s.out
  outLen : t.outLen = s.outLen

/-- ACC and ACC_N are as they were. -/
structure SameAcc (s t : State) : Prop where
  acc : t.acc = s.acc
  accN : t.accN = s.accN

/-- FLAGS, COND and COND_N are as they were. -/
structure SameCond (s t : State) : Prop where
  flags : t.flags = s.flags
  cond : t.cond = s.cond
  condN : t.condN = s.condN

/-- ACC, ACC_N, UNESC_PEND, the response registers, FLAGS, COND and COND_N are as they were. -/
structure SameHidden (s t : State) : Prop where
  acc : SameAcc s t
  unescPend : t.unescPend = s.unescPend
  rsp : t.rsp = s.rsp
  cond : SameCond s t

/-! ### How an operation ends -/

/-- R710: `done`: ERR is NONE, ERR_ARG is none, and ERR_STICKY is as it was. -/
structure EndsDone (s t : State) : Prop where
  err : t.err = .none
  errArg : t.errArg = .none
  errSticky : t.errSticky = s.errSticky

/-- R710: `raise e(arg)`. -/
structure EndsRaised (e : ErrKind) (arg : ErrArg) (t : State) : Prop where
  err : t.err = e
  errArg : t.errArg = arg
  errSticky : t.errSticky = true

/-! ### What the buffers stand for -/

/-- IN[0..IN_LEN) is this sequence. -/
structure State.Holds (s : State) (wire : List Byte) : Prop where
  length : s.inLen.toNat = wire.length
  byte : ∀ (i : Nat) (h : i < wire.length), s.inByte i = wire[i]

/-- R308: the wire bytes that stand for one logical byte, as a decoder reads them. -/
inductive WireByte (c : Config) : Byte → List Byte → Prop where
  /-- A byte that is not the introducer stands for itself. -/
  | plain (x : Byte) (h : x ≠ c.escIntro) : WireByte c x [x]
  /-- The introducer and a byte `y` stand for `y ^ XOR_MASK`. -/
  | pair (y : Byte) : WireByte c (y ^^^ 0x80#8) [c.escIntro, y]

/-- R620, R623: `codes` lists exactly the set bits of the three status bytes, groups ascending and bits
descending. -/
structure CodesOf (p t g : Byte) (codes : List Byte) : Prop where
  pan : ∀ k, k < 8 → (BitVec.ofNat 8 k ∈ codes ↔ p.getLsbD k = true)
  tilt : ∀ k, k < 8 → (BitVec.ofNat 8 (8 + k) ∈ codes ↔ t.getLsbD k = true)
  general : ∀ k, k < 8 → (BitVec.ofNat 8 (16 + k) ∈ codes ↔ g.getLsbD k = true)
  bounded : ∀ x ∈ codes, x.toNat < 24
  ordered : codes.Pairwise fun x y =>
    x.toNat / 8 < y.toNat / 8 ∨ (x.toNat / 8 = y.toNat / 8 ∧ y.toNat % 8 < x.toNat % 8)

/-- The operations that build wire bytes under a check of their operands or none: ENC16 and the frame
operations (R501, R711). -/
def buildingOps : List Instr :=
  [.enc16, .frmJog, .frmStop, .frmAbs, .frmDelta, .frmZero, .frmHome, .frmSync]

/-- The frame operations, with the command number each emits (R302). -/
def frameCommand (c : Config) : Instr → Option Byte
  | .frmJog | .frmStop | .frmSync => some 0x31#8
  | .frmAbs => some 0x33#8
  | .frmDelta => some c.deltaCmd
  | .frmZero => some 0x35#8
  | .frmHome => some 0x36#8
  | .esc | .unesc | .unescRst | .enc16 | .dec16 | .chkClr | .chkAdd | .chkRd | .chkSeq
  | .rspParse | .flgDecode => none

/-- The pan conditions among the names of the active conditions, in their order. -/
def panNames (names : List (Option Condition)) : List PanCondition :=
  names.filterMap fun
    | some (.pan c) => some c
    | some (.tilt _) => none
    | some (.general _) => none
    | none => none

/-! ### Runs -/

/-- UNESC fed a wire sequence byte by byte through ARG_A: the bytes it put out (those steps with
RES2 = 1), in order, and the last state; none if a step does not complete. -/
def feedUnesc : List Byte → State → Option (List Byte × State)
  | [], s => some ([], s)
  | x :: rest, s =>
    match exec .unesc (s.setArgA (x.setWidth 32)) with
    | .next t =>
      match feedUnesc rest t with
      | some (bs, u) => some ((if t.res2 = 1 then [t.res.setWidth 8] else []) ++ bs, u)
      | none => none
    | .fault _ => none
    | .refused _ => none

/-- A step that the machine takes: no fault and no refusal. -/
def State.StepsOn (s : State) : Prop := ∃ t, step s = .next t

/-- An access the spec gives a meaning: 32 bits wide at a word-aligned offset of the window (R202). -/
def AccessLegal (c : Config) (bits addr : Nat) : Prop :=
  bits = 32 ∧ c.base ≤ addr ∧ addr < c.base + 0x200 ∧ (addr - c.base) % 4 = 0

end Sys2Proof.Machine
end

