-- ==== Sys2Proof/Certificates/Slice0/Obligations.lean ====
section
/-!
DEFINITION. The statements for the provers. Each docstring names the rule of spec/ it formalises, or says
that it is derived and from what.
-/

open Sys2Proof Sys2Proof.Machine

/-! ### Decoding -/

/-- The eighteen operation words of R302 decode to their operations, and words R304 names are ILLEGAL. -/
def Obligations.OperationWordsDecode : Prop :=
  decode 0x00000001 = .ok .esc ∧ decode 0x00000002 = .ok .unesc ∧ decode 0x00000003 = .ok .unescRst ∧
  decode 0x00000004 = .ok .enc16 ∧ decode 0x00000005 = .ok .dec16 ∧
  decode 0x00000008 = .ok .chkClr ∧ decode 0x00000009 = .ok .chkAdd ∧ decode 0x0000000A = .ok .chkRd ∧
  decode 0x0000000B = .ok .chkSeq ∧
  decode 0x00000010 = .ok .frmJog ∧ decode 0x00000011 = .ok .frmStop ∧ decode 0x00000012 = .ok .frmAbs ∧
  decode 0x00000013 = .ok .frmDelta ∧ decode 0x00000014 = .ok .frmZero ∧
  decode 0x00000015 = .ok .frmHome ∧ decode 0x00000016 = .ok .frmSync ∧
  decode 0x00000020 = .ok .rspParse ∧ decode 0x00000021 = .ok .flgDecode ∧
  decode 0x00000000 = .error (.unassignedCode 0x00) ∧ decode 0x00000006 = .error (.unassignedCode 0x06) ∧
  decode 0x000000FF = .error (.unassignedCode 0xFF) ∧
  decode 0x00000101 = .error (.upperBitsSet 0x00000101) ∧
  decode 0x80000014 = .error (.upperBitsSet 0x80000014)

/-- R301: decoding is total, an operation comes only from its own word, and exactly the words with a
bit of 31:8 set or with an unassigned code in 7:0 are ILLEGAL. -/
def Obligations.DecodeAndEncodeAgree : Prop :=
  (∀ i : Instr, i.wf = true → decode (encode i) = .ok i) ∧
  (∀ (w : Word) (i : Instr), decode w = .ok i → w = encode i) ∧
  (∀ w : Word, (∃ e, decode w = .error e) ↔
    (w >>> 8 ≠ 0 ∨ w.setWidth 8 ∉
      ([0x01, 0x02, 0x03, 0x04, 0x05, 0x08, 0x09, 0x0A, 0x0B, 0x10, 0x11, 0x12, 0x13, 0x14, 0x15, 0x16,
        0x20, 0x21] : List Byte)))

/-! ### Steps -/

/-- R300, R301: the host's write of a word to CMD sets CMD_LAST and runs exactly the operation the word
decodes to, at the state as it stands at that write; the access is used up and the epoch of the free
values moves on (the last two are the model's own, notes/assumptions/3.md and 7.md). -/
def Obligations.CommandWriteRunsDecodedOperation : Prop :=
  ∀ (s : State) (w : Word) (i : Instr) (rest : List BusEvent),
    s.cfg.accepted = true → s.pending = .write 32 s.cfg.base w :: rest → decode w = .ok i →
    step s = exec i { s with pending := rest, epoch := s.epoch + 1, cmdLast := w }

/-- R705: a word that decodes to ILLEGAL sets CMD_LAST and records IllegalOp in STATUS; nothing else of
the block changes (that the access is used up and the epoch moves on is the model's own,
notes/assumptions/3.md and 7.md). -/
def Obligations.IllegalWordRaisesIllegalOp : Prop :=
  ∀ (s : State) (w : Word) (e : DecodeError) (rest : List BusEvent),
    s.cfg.accepted = true → s.pending = .write 32 s.cfg.base w :: rest → decode w = .error e →
    step s = .next { s with
      pending := rest, epoch := s.epoch + 1, cmdLast := w,
      err := .illegalOp, errArg := .none, errSticky := true }

/-- R801: with no host access pending the block stays as it is. -/
def Obligations.IdleBlockStays : Prop :=
  ∀ s : State, s.cfg.accepted = true → s.pending = [] → step s = .next s

/-- R700, R730: the block takes every legal host access and every reset: no state makes it stop. -/
def Obligations.LegalAccessNeverStops : Prop :=
  ∀ (s : State) (e : BusEvent) (rest : List BusEvent),
    s.cfg.accepted = true → s.pending = e :: rest →
    (match e with
      | .reset => True
      | .read bits addr => AccessLegal s.cfg bits addr
      | .write bits addr _ => AccessLegal s.cfg bits addr) →
    s.StepsOn

/-- R202: an access that is not 32 bits wide, or not at a multiple of 4, is refused; R200: an address
outside the window is a fault (the model's own, notes/assumptions/11.md). -/
def Obligations.IllegalAccessStops : Prop :=
  ∀ (s : State) (bits addr : Nat) (v : Word) (e : BusEvent) (rest : List BusEvent),
    s.cfg.accepted = true → s.pending = e :: rest → e ∈ [BusEvent.read bits addr, .write bits addr v] →
    (s.cfg.base ≤ addr → addr < s.cfg.base + 0x200 → bits ≠ 32 →
      step s = .refused (.unsupportedWidth bits)) ∧
    (s.cfg.base ≤ addr → addr < s.cfg.base + 0x200 → bits = 32 → (addr - s.cfg.base) % 4 ≠ 0 →
      step s = .refused (.misalignedAccess addr)) ∧
    ((addr < s.cfg.base ∨ s.cfg.base + 0x200 ≤ addr) → step s = .fault (.outsideWindow addr))

/-- R204: a legal read changes nothing but the model's record of the word it returned
(notes/assumptions/4.md), and the same read made again returns the same word, whatever legal reads come
between the two. -/
def Obligations.ReadsHaveNoEffectAndRepeat : Prop :=
  ∀ (s : State) (addr : Nat) (between : List Nat) (rest : List BusEvent),
    s.cfg.accepted = true → AccessLegal s.cfg 32 addr → (∀ a ∈ between, AccessLegal s.cfg 32 a) →
    s.pending = .read 32 addr :: between.map (BusEvent.read 32) ++ .read 32 addr :: rest →
    ∃ v : Word,
      step s = .next { s with
        pending := between.map (BusEvent.read 32) ++ .read 32 addr :: rest, lastRead := some v } ∧
      core.run (between.length + 2) s = .next { s with pending := rest, lastRead := some v }

/-- R201, R106, R701: what a host read of each register returns, lane by lane, with the numbers of the
result codes and of the operands. -/
def Obligations.RegisterMapReads : Prop :=
  ∀ (s : State) (off : Nat) (rest : List BusEvent),
    s.cfg.accepted = true → s.pending = .read 32 (s.cfg.base + off) :: rest →
    off < 0x200 → off % 4 = 0 →
    ∃ v : Word, step s = .next { s with pending := rest, lastRead := some v } ∧
      (off = 0x000 → v = s.cmdLast) ∧ (off = 0x004 → v = s.argA) ∧ (off = 0x008 → v = s.argB) ∧
      (off = 0x00C → v = s.argC) ∧ (off = 0x010 → v.toNat = s.inLen.toNat) ∧
      (off = 0x014 →
        (s.err = .none → v.extractLsb' 0 4 = 0#4) ∧ (s.err = .rangeError → v.extractLsb' 0 4 = 1#4) ∧
        (s.err = .invalidArgument → v.extractLsb' 0 4 = 2#4) ∧
        (s.err = .malformedResponse → v.extractLsb' 0 4 = 3#4) ∧
        (s.err = .illegalOp → v.extractLsb' 0 4 = 4#4) ∧
        (s.errArg = .none → v.extractLsb' 4 2 = 0#2) ∧ (s.errArg = .a → v.extractLsb' 4 2 = 1#2) ∧
        (s.errArg = .b → v.extractLsb' 4 2 = 2#2) ∧ (s.errArg = .c → v.extractLsb' 4 2 = 3#2) ∧
        v.extractLsb' 6 2 = 0 ∧ v.getLsbD 8 = s.errSticky ∧ v.getLsbD 9 = s.unescPend ∧
        v.getLsbD 10 = s.accN ∧ v >>> 11 = 0) ∧
      (off = 0x018 → v = s.res) ∧ (off = 0x01C → v = s.res2) ∧
      (off = 0x020 → v.toNat = s.outLen.toNat) ∧ (off = 0x024 → v.toNat = s.acc.toNat) ∧
      (off = 0x028 → v.toNat = s.flags.toNat) ∧ (off = 0x02C → v.toNat = s.condN.toNat) ∧
      (off = 0x030 → v.extractLsb' 0 8 = s.rsp.ack ∧ v.extractLsb' 8 8 = s.rsp.cmd ∧
        v.extractLsb' 16 8 = s.rsp.pan ∧ v.extractLsb' 24 8 = s.rsp.tilt) ∧
      (off = 0x034 → v.extractLsb' 0 8 = s.rsp.pstat ∧ v.extractLsb' 8 8 = s.rsp.tstat ∧
        v.extractLsb' 16 8 = s.rsp.gstat ∧ v.extractLsb' 24 8 = s.rsp.chk) ∧
      (off = 0x038 → v.toNat = s.rsp.last.toNat) ∧
      (off = 0x03C ∨ (0x050 ≤ off ∧ off < 0x060) ∨ (0x078 ≤ off ∧ off < 0x100) → v = 0)

/-- R203: how the bytes of OUT, COND and IN lie in the words a host reads. IN bytes that were written
read as written; lanes at and above IN_MAX read 0 (notes/assumptions/9.md). -/
def Obligations.BufferWordsPackBytes : Prop :=
  ∀ (s : State) (off j : Nat) (rest : List BusEvent),
    s.Inv → s.pending = .read 32 (s.cfg.base + off) :: rest → off < 0x200 → off % 4 = 0 → j < 4 →
    ∃ v : Word, step s = .next { s with pending := rest, lastRead := some v } ∧
      (∀ i, 0x040 + i = off + j → i < 16 → ∀ h : i < s.out.length,
        v.extractLsb' (8 * j) 8 = s.out[i]) ∧
      (∀ i, 0x060 + i = off + j → ∀ h : i < s.cond.length,
        v.extractLsb' (8 * j) 8 = s.cond[i]) ∧
      (∀ i b, 0x100 + i = off + j → s.inBuf.read i = some b → v.extractLsb' (8 * j) 8 = b) ∧
      (∀ i, 0x100 + i = off + j → s.cfg.inMax ≤ i → v.extractLsb' (8 * j) 8 = 0)

/-- R101, R110, R201, R203: what a host write to an operand register, to IN_LEN and to a word of IN
changes, and that it changes nothing else; IN is compared through the read of one byte. That lanes at and
above IN_MAX are not written is the model's reading (notes/assumptions/9.md); the pending accesses and the
epoch are the model's own (notes/assumptions/3.md and 7.md). -/
def Obligations.HostWritesOperandsAndBuffer : Prop :=
  ∀ (s : State) (off : Nat) (v : Word) (rest : List BusEvent),
    s.Inv → s.pending = .write 32 (s.cfg.base + off) v :: rest →
    off < 0x200 → off % 4 = 0 →
    (off = 0x004 → step s = .next { s with pending := rest, epoch := s.epoch + 1, argA := v }) ∧
    (off = 0x008 → step s = .next { s with pending := rest, epoch := s.epoch + 1, argB := v }) ∧
    (off = 0x00C → step s = .next { s with pending := rest, epoch := s.epoch + 1, argC := v }) ∧
    (off = 0x010 → ∃ n : BitVec 9, n.toNat = min v.toNat s.cfg.inMax ∧
      step s = .next { s with pending := rest, epoch := s.epoch + 1, inLen := n }) ∧
    (0x100 ≤ off → ∃ m : Memory,
      step s = .next { s with pending := rest, epoch := s.epoch + 1, inBuf := m } ∧
      (∀ i j, j < 4 → 0x100 + i = off + j → i < s.cfg.inMax →
        m.read i = some (v.extractLsb' (8 * j) 8)) ∧
      (∀ i, (s.cfg.inMax ≤ i ∨ 0x100 + i < off ∨ off + 4 ≤ 0x100 + i) → m.read i = s.inBuf.read i))

/-- R202, R106: a host write to a read-only register or to an offset the map does not list is ignored. -/
def Obligations.ReadOnlyWritesAreIgnored : Prop :=
  ∀ (s : State) (off : Nat) (v : Word) (rest : List BusEvent),
    s.cfg.accepted = true → s.pending = .write 32 (s.cfg.base + off) v :: rest →
    off % 4 = 0 → 0x018 ≤ off → off < 0x100 →
    step s = .next { s with pending := rest, epoch := s.epoch + 1 }

/-- R106, R204: a host write to STATUS clears ERR_STICKY when bit 8 is set, and does nothing else. -/
def Obligations.StatusWriteClearsOnlySticky : Prop :=
  ∀ (s : State) (v : Word) (rest : List BusEvent),
    s.cfg.accepted = true → s.pending = .write 32 (s.cfg.base + 0x014) v :: rest →
    (v.getLsbD 8 = true →
      step s = .next { s with pending := rest, epoch := s.epoch + 1, errSticky := false }) ∧
    (v.getLsbD 8 = false → step s = .next { s with pending := rest, epoch := s.epoch + 1 })

/-! ### Reset and the invariant -/

/-- R116: the state right after reset under any parameters, as the host and the operations find it, and
no step changes the parameters. -/
def Obligations.ResetValuesAndFixedParameters : Prop :=
  (∀ s t : State, step s = .next t → t.cfg = s.cfg) ∧
  ∀ c : Config,
    (State.resetWith c).cmdLast = 0 ∧ (State.resetWith c).argA = 0 ∧ (State.resetWith c).argB = 0 ∧
    (State.resetWith c).argC = 0 ∧ (State.resetWith c).res = 0 ∧ (State.resetWith c).res2 = 0 ∧
    (State.resetWith c).err = .none ∧ (State.resetWith c).errArg = .none ∧
    (State.resetWith c).errSticky = false ∧ (State.resetWith c).unescPend = false ∧
    (State.resetWith c).acc = 0 ∧ (State.resetWith c).accN = false ∧
    (State.resetWith c).inLen = 0 ∧ (State.resetWith c).outLen = 0 ∧ (State.resetWith c).condN = 0 ∧
    (State.resetWith c).rsp = ⟨0, 0, 0, 0, 0, 0, 0, 0, 0⟩ ∧ (State.resetWith c).flags = 0 ∧
    (∀ i, (State.resetWith c).inBuf.read i = none) ∧
    (∀ i, (State.resetWith c).outLane i = Config.freeOutByte (State.resetWith c).epoch i) ∧
    (∀ i, (State.resetWith c).condLane i = Config.freeCondByte (State.resetWith c).epoch i) ∧
    (State.resetWith c).cfg = c

/-- R800: the external reset takes the block from any state to the reset state under the same
parameters; the accesses still pending and the epoch are the model's own (notes/assumptions/13.md). -/
def Obligations.ExternalResetFromAnyState : Prop :=
  ∀ (s : State) (rest : List BusEvent),
    s.cfg.accepted = true → s.pending = .reset :: rest →
    step s = .next { State.resetWith s.cfg with pending := rest, epoch := s.epoch + 1 }

/-- The invariant holds right after reset under every accepted configuration. -/
def Obligations.ResetSatisfiesInvariant : Prop :=
  State.reset.Inv ∧ ∀ c : Config, c.accepted = true → (State.resetWith c).Inv

/-- Every step keeps the invariant: IN stays canonical and inside IN_MAX, the lengths stay inside their
buffers, COND stays the list of the bits set in FLAGS, an empty accumulator stays 0. -/
def Obligations.EveryStepKeepsInvariant : Prop :=
  ∀ s t : State, s.Inv → step s = .next t → t.Inv

/-! ### Escape codec and field codec -/

/-- R400, R401: ESC. -/
def Obligations.EscWritesWireForm : Prop :=
  decode 0x00000001 = .ok .esc ∧
  ∀ s : State, ∃ t : State, exec .esc s = .next t ∧
    (s.argA.setWidth 8 ∈ [0x02#8, 0x03#8, 0x06#8, s.cfg.nakByte, s.cfg.escCmp] →
      t.out = [s.cfg.escIntro, s.argA.setWidth 8 ^^^ 0x80#8] ∧ t.outLen = 2) ∧
    (s.argA.setWidth 8 ∉ [0x02#8, 0x03#8, 0x06#8, s.cfg.nakByte, s.cfg.escCmp] →
      t.out = [s.argA.setWidth 8] ∧ t.outLen = 1) ∧
    EndsDone s t ∧ SameInputs s t ∧ SameHidden s t ∧ t.res = s.res ∧ t.res2 = s.res2

/-- R402: UNESC. -/
def Obligations.UnescFeedsOneByte : Prop :=
  decode 0x00000002 = .ok .unesc ∧
  ∀ s : State, ∃ t : State, exec .unesc s = .next t ∧
    (s.unescPend = true →
      t.res = (s.argA &&& 0xFF#32) ^^^ 0x80#32 ∧ t.res2 = 1 ∧ t.unescPend = false) ∧
    (s.unescPend = false → s.argA.setWidth 8 = s.cfg.escIntro →
      t.res = 0 ∧ t.res2 = 0 ∧ t.unescPend = true) ∧
    (s.unescPend = false → s.argA.setWidth 8 ≠ s.cfg.escIntro →
      t.res = s.argA &&& 0xFF#32 ∧ t.res2 = 1 ∧ t.unescPend = false) ∧
    EndsDone s t ∧ SameInputs s t ∧ SameOut s t ∧ SameAcc s t ∧ t.rsp = s.rsp ∧ SameCond s t

/-- R403: UNESC_RST. -/
def Obligations.UnescRstDropsPendingPair : Prop :=
  decode 0x00000003 = .ok .unescRst ∧
  ∀ s : State, ∃ t : State, exec .unescRst s = .next t ∧ t.unescPend = false ∧
    EndsDone s t ∧ SameInputs s t ∧ SameOut s t ∧ t.res = s.res ∧ t.res2 = s.res2 ∧ SameAcc s t ∧
    t.rsp = s.rsp ∧ SameCond s t

/-- R430: under W1, any sequence of logical bytes, escaped byte by byte and fed to UNESC with no pair
pending, comes out as it was; the last one stands in RES with RES2 = 1 and no pair is pending at the end.
Without W1 the law fails for the introducer: nothing comes out and a pair is pending. -/
def Obligations.UnescapeInvertsEscapeUnderW1 : Prop :=
  ∀ s : State, s.unescPend = false →
    (s.cfg.escIntro ∈ s.cfg.ctrl → ∀ bs : List Byte,
      ∃ t : State, feedUnesc (bs.flatMap (esc s.cfg)) s = some (bs, t) ∧ t.unescPend = false ∧
        ∀ b, bs.getLast? = some b → t.res = b.setWidth 32 ∧ t.res2 = 1) ∧
    (s.cfg.escIntro ∉ s.cfg.ctrl →
      ∃ t : State, feedUnesc (esc s.cfg s.cfg.escIntro) s = some ([], t) ∧ t.unescPend = true)

/-- R12 (W2), R16: inside the escaped payload the only control byte is the introducer, so a start or
end marker never stands there (unless it is the introducer). -/
def Obligations.EscapedPayloadHidesMarkers : Prop :=
  ∀ (c : Config) (payload : List Byte) (b : Byte),
    c.w2 = true → b ∈ escAll c payload → b ∈ c.ctrl → b = c.escIntro

/-- R410, R432: ENC16 on a value in int16 and outside it. -/
def Obligations.Enc16EncodesOrRefusesRange : Prop :=
  decode 0x00000004 = .ok .enc16 ∧
  ∀ s : State, ∃ t : State, exec .enc16 s = .next t ∧
    SameInputs s t ∧ SameHidden s t ∧ t.res2 = s.res2 ∧
    (-32768 ≤ s.argA.toInt → s.argA.toInt ≤ 32767 →
      t.out = esc s.cfg (s.argA.extractLsb' 0 8) ++ esc s.cfg (s.argA.extractLsb' 8 8) ∧
      t.outLen.toNat = 2 + (if s.argA.extractLsb' 0 8 ∈ s.cfg.ctrl then 1 else 0) +
        (if s.argA.extractLsb' 8 8 ∈ s.cfg.ctrl then 1 else 0) ∧
      t.res = s.argA &&& 0xFFFF#32 ∧ EndsDone s t) ∧
    (s.argA.toInt < -32768 ∨ 32767 < s.argA.toInt →
      t.outLen = 0 ∧ t.res = 0 ∧ EndsRaised .rangeError .a t)

/-- R420: DEC16 when IN begins with the wire bytes of two logical bytes, whatever follows them, and when
IN runs out before two logical bytes are read. -/
def Obligations.Dec16DecodesFieldOrReports : Prop :=
  decode 0x00000005 = .ok .dec16 ∧
  ∀ (s : State) (wire : List Byte),
    s.Holds wire →
    ∃ t : State, exec .dec16 s = .next t ∧ SameInputs s t ∧ SameOut s t ∧ SameHidden s t ∧
      (∀ (lo hi : Byte) (wireLo wireHi tail : List Byte),
        WireByte s.cfg lo wireLo → WireByte s.cfg hi wireHi → wire = wireLo ++ wireHi ++ tail →
        t.res.toInt = (if hi.toNat < 128 then (256 * hi.toNat + lo.toNat : Int)
          else 256 * hi.toNat + lo.toNat - 65536) ∧
        t.res2.toNat = wireLo.length + wireHi.length ∧ EndsDone s t) ∧
      ((¬ ∃ (lo hi : Byte) (wireLo wireHi tail : List Byte),
          WireByte s.cfg lo wireLo ∧ WireByte s.cfg hi wireHi ∧ wire = wireLo ++ wireHi ++ tail) →
        t.res = 0 ∧ t.res2 = 0 ∧ EndsRaised .malformedResponse .none t)

/-- R431: under W1, a value in int16 encoded by ENC16, copied from OUT to IN and decoded by DEC16 comes
back, and DEC16 consumes exactly the wire bytes. -/
def Obligations.FieldRoundTrip : Prop :=
  ∀ (s : State) (v : Int),
    s.cfg.escIntro ∈ s.cfg.ctrl → -32768 ≤ v → v ≤ 32767 →
    ∃ t : State, exec .enc16 { s with argA := BitVec.ofInt 32 v } = .next t ∧ t.err = .none ∧
      t.out.length = t.outLen.toNat ∧
      ∀ u : State, u.cfg = s.cfg → u.Holds t.out →
        ∃ u' : State, exec .dec16 u = .next u' ∧ u'.res.toInt = v ∧
          u'.res2.toNat = t.outLen.toNat ∧ u'.err = .none

/-! ### Checksum -/

/-- R460: CHK_CLR. -/
def Obligations.ChkClrEmptiesAccumulator : Prop :=
  decode 0x00000008 = .ok .chkClr ∧
  ∀ s : State, ∃ t : State, exec .chkClr s = .next t ∧ t.acc = 0 ∧ t.accN = false ∧
    EndsDone s t ∧ SameInputs s t ∧ SameOut s t ∧ t.res = s.res ∧ t.res2 = s.res2 ∧
    t.unescPend = s.unescPend ∧ t.rsp = s.rsp ∧ SameCond s t

/-- R461: CHK_ADD. -/
def Obligations.ChkAddFoldsByte : Prop :=
  decode 0x00000009 = .ok .chkAdd ∧
  ∀ s : State, ∃ t : State, exec .chkAdd s = .next t ∧
    (∀ k, k < 8 → t.acc.getLsbD k = (s.acc.getLsbD k != s.argA.getLsbD k)) ∧ t.accN = true ∧
    EndsDone s t ∧ SameInputs s t ∧ SameOut s t ∧ t.res = s.res ∧ t.res2 = s.res2 ∧
    t.unescPend = s.unescPend ∧ t.rsp = s.rsp ∧ SameCond s t

/-- R462: CHK_RD. -/
def Obligations.ChkRdReadsAccumulator : Prop :=
  decode 0x0000000A = .ok .chkRd ∧
  ∀ s : State, ∃ t : State, exec .chkRd s = .next t ∧
    SameInputs s t ∧ SameOut s t ∧ SameHidden s t ∧ t.res2 = s.res2 ∧
    (s.accN = true → t.res.toNat = s.acc.toNat ∧ EndsDone s t) ∧
    (s.accN = false → t.res = 0 ∧ EndsRaised .invalidArgument .none t)

/-- R463, R450: CHK_SEQ: bit by bit the parity of the bytes in IN, or InvalidArgument for no bytes. -/
def Obligations.ChkSeqXorsSequence : Prop :=
  decode 0x0000000B = .ok .chkSeq ∧
  ∀ (s : State) (wire : List Byte),
    s.Holds wire →
    ∃ t : State, exec .chkSeq s = .next t ∧
      SameInputs s t ∧ SameOut s t ∧ SameHidden s t ∧ t.res2 = s.res2 ∧
      (wire ≠ [] →
        (∀ k, k < 8 → (t.res.getLsbD k = true ↔ wire.countP (fun b => b.getLsbD k) % 2 = 1)) ∧
        t.res.toNat < 256 ∧ EndsDone s t) ∧
      (wire = [] → t.res = 0 ∧ EndsRaised .invalidArgument .none t)

/-- R470, R462: CHK_CLR, CHK_ADD of each byte of a sequence, CHK_RD, run by the host, leave in RES the
XOR of the sequence in any order. -/
def Obligations.StreamedChecksumIgnoresOrder : Prop :=
  ∀ (s : State) (bs bs' : List Byte),
    s.cfg.accepted = true → bs ≠ [] → bs.Perm bs' →
    s.pending = programEvents s.cfg.base
      ([.op .chkClr []] ++ bs.map (fun b => .op .chkAdd [(b.toNat : Int)]) ++ [.op .chkRd []]) →
    ∃ t : State, core.run (2 * bs.length + 2) s = .next t ∧
      t.res = (bs'.foldr (· ^^^ ·) 0#8).setWidth 32 ∧ t.err = .none ∧ t.pending = []

/-- R463, R470, R313: the same bytes loaded by LDIN and folded by CHK_SEQ give the same checksum. -/
def Obligations.SequenceChecksumIgnoresOrder : Prop :=
  ∀ (s : State) (bs bs' : List Byte),
    s.cfg.accepted = true → bs ≠ [] → bs.length ≤ s.cfg.inMax → bs.Perm bs' →
    s.pending = programEvents s.cfg.base [.ldin bs, .op .chkSeq []] →
    ∃ t : State, core.run ((bs.length + 3) / 4 + 2) s = .next t ∧
      t.res = (bs'.foldr (· ^^^ ·) 0#8).setWidth 32 ∧ t.err = .none ∧ t.pending = []

/-! ### Frames -/

/-- R510, R305, R306, R712: FRM_JOG: the frame, and the first failing check of A, B, C in that order. -/
def Obligations.FrmJogBuildsFrameOrReports : Prop :=
  decode 0x00000010 = .ok .frmJog ∧
  ∀ s : State, ∃ t : State, exec .frmJog s = .next t ∧
    SameInputs s t ∧ SameHidden s t ∧ t.res2 = s.res2 ∧
    (s.argA >>> 4 = 0 → -32768 ≤ s.argB.toInt → s.argB.toInt ≤ 32767 →
      -32768 ≤ s.argC.toInt → s.argC.toInt ≤ 32767 →
      ∃ lrc : Byte,
        lrc = 0x31#8 ^^^ s.argA.setWidth 8 ^^^ s.argB.extractLsb' 0 8 ^^^ s.argB.extractLsb' 8 8 ^^^
          s.argC.extractLsb' 0 8 ^^^ s.argC.extractLsb' 8 8 ∧
        t.out = [0x02#8, 0x31#8] ++ esc s.cfg (s.argA.setWidth 8) ++
          esc s.cfg (s.argB.extractLsb' 0 8) ++ esc s.cfg (s.argB.extractLsb' 8 8) ++
          esc s.cfg (s.argC.extractLsb' 0 8) ++ esc s.cfg (s.argC.extractLsb' 8 8) ++
          (if s.cfg.escChk then esc s.cfg lrc else [lrc]) ++ [0x03#8] ∧
        t.outLen.toNat = t.out.length ∧ t.res.toNat = lrc.toNat ∧ EndsDone s t) ∧
    (s.argA >>> 4 ≠ 0 → t.outLen = 0 ∧ t.res = 0 ∧ EndsRaised .invalidArgument .a t) ∧
    (s.argA >>> 4 = 0 → (s.argB.toInt < -32768 ∨ 32767 < s.argB.toInt) →
      t.outLen = 0 ∧ t.res = 0 ∧ EndsRaised .rangeError .b t) ∧
    (s.argA >>> 4 = 0 → -32768 ≤ s.argB.toInt → s.argB.toInt ≤ 32767 →
      (s.argC.toInt < -32768 ∨ 32767 < s.argC.toInt) →
      t.outLen = 0 ∧ t.res = 0 ∧ EndsRaised .rangeError .c t)

/-- R511: FRM_STOP: the jog frame with flags 0x04 and both speeds 0, whatever the operand registers hold;
FRM_JOG with (4, 0, 0) does the same. -/
def Obligations.FrmStopBuildsFrame : Prop :=
  decode 0x00000011 = .ok .frmStop ∧
  ∀ s : State, ∃ t : State, exec .frmStop s = .next t ∧
    t.out = [0x02#8, 0x31#8] ++ esc s.cfg 0x04#8 ++ esc s.cfg 0x00#8 ++ esc s.cfg 0x00#8 ++
      esc s.cfg 0x00#8 ++ esc s.cfg 0x00#8 ++
      (if s.cfg.escChk then esc s.cfg 0x35#8 else [0x35#8]) ++ [0x03#8] ∧
    t.outLen.toNat = t.out.length ∧ t.res = 0x35 ∧
    EndsDone s t ∧ SameInputs s t ∧ SameHidden s t ∧ t.res2 = s.res2 ∧
    (s.argA = 4 → s.argB = 0 → s.argC = 0 → exec .frmJog s = .next t)

/-- R512, R305, R306, R502: FRM_ABS: the frame for azimuth in [-3600, 3600] and elevation in
[-1800, 1800], and the first failing check. -/
def Obligations.FrmAbsBuildsFrameOrReports : Prop :=
  decode 0x00000012 = .ok .frmAbs ∧
  ∀ s : State, ∃ t : State, exec .frmAbs s = .next t ∧
    SameInputs s t ∧ SameHidden s t ∧ t.res2 = s.res2 ∧
    (-3600 ≤ s.argA.toInt → s.argA.toInt ≤ 3600 → -1800 ≤ s.argB.toInt → s.argB.toInt ≤ 1800 →
      ∃ lrc : Byte,
        lrc = 0x33#8 ^^^ s.argA.extractLsb' 0 8 ^^^ s.argA.extractLsb' 8 8 ^^^
          s.argB.extractLsb' 0 8 ^^^ s.argB.extractLsb' 8 8 ∧
        t.out = [0x02#8, 0x33#8] ++ esc s.cfg (s.argA.extractLsb' 0 8) ++
          esc s.cfg (s.argA.extractLsb' 8 8) ++ esc s.cfg (s.argB.extractLsb' 0 8) ++
          esc s.cfg (s.argB.extractLsb' 8 8) ++
          (if s.cfg.escChk then esc s.cfg lrc else [lrc]) ++ [0x03#8] ∧
        t.outLen.toNat = t.out.length ∧ t.res.toNat = lrc.toNat ∧ EndsDone s t) ∧
    ((s.argA.toInt < -3600 ∨ 3600 < s.argA.toInt) →
      t.outLen = 0 ∧ t.res = 0 ∧ EndsRaised .rangeError .a t) ∧
    (-3600 ≤ s.argA.toInt → s.argA.toInt ≤ 3600 → (s.argB.toInt < -1800 ∨ 1800 < s.argB.toInt) →
      t.outLen = 0 ∧ t.res = 0 ∧ EndsRaised .rangeError .b t)

/-- R513, R305, R306, R502: FRM_DELTA: the frame for two values in int16, and the first failing check. -/
def Obligations.FrmDeltaBuildsFrameOrReports : Prop :=
  decode 0x00000013 = .ok .frmDelta ∧
  ∀ s : State, ∃ t : State, exec .frmDelta s = .next t ∧
    SameInputs s t ∧ SameHidden s t ∧ t.res2 = s.res2 ∧
    (-32768 ≤ s.argA.toInt → s.argA.toInt ≤ 32767 → -32768 ≤ s.argB.toInt → s.argB.toInt ≤ 32767 →
      ∃ lrc : Byte,
        lrc = s.cfg.deltaCmd ^^^ s.argA.extractLsb' 0 8 ^^^ s.argA.extractLsb' 8 8 ^^^
          s.argB.extractLsb' 0 8 ^^^ s.argB.extractLsb' 8 8 ∧
        t.out = [0x02#8, s.cfg.deltaCmd] ++ esc s.cfg (s.argA.extractLsb' 0 8) ++
          esc s.cfg (s.argA.extractLsb' 8 8) ++ esc s.cfg (s.argB.extractLsb' 0 8) ++
          esc s.cfg (s.argB.extractLsb' 8 8) ++
          (if s.cfg.escChk then esc s.cfg lrc else [lrc]) ++ [0x03#8] ∧
        t.outLen.toNat = t.out.length ∧ t.res.toNat = lrc.toNat ∧ EndsDone s t) ∧
    ((s.argA.toInt < -32768 ∨ 32767 < s.argA.toInt) →
      t.outLen = 0 ∧ t.res = 0 ∧ EndsRaised .rangeError .a t) ∧
    (-32768 ≤ s.argA.toInt → s.argA.toInt ≤ 32767 →
      (s.argB.toInt < -32768 ∨ 32767 < s.argB.toInt) →
      t.outLen = 0 ∧ t.res = 0 ∧ EndsRaised .rangeError .b t)

/-- R514, R515, R516, R471: FRM_ZERO, FRM_HOME and FRM_SYNC: a frame with no payload, whose checksum is
its command number. -/
def Obligations.PayloadFreeFramesBuild : Prop :=
  ∀ (s : State) (i : Instr) (w : Word) (cmd : Byte),
    (i, w, cmd) ∈ [(Instr.frmZero, 0x00000014#32, 0x35#8), (.frmHome, 0x00000015#32, 0x36#8),
      (.frmSync, 0x00000016#32, 0x31#8)] →
    decode w = .ok i ∧ ∃ t : State, exec i s = .next t ∧
      t.out = [0x02#8, cmd] ++ (if s.cfg.escChk then esc s.cfg cmd else [cmd]) ++ [0x03#8] ∧
      t.outLen.toNat = t.out.length ∧ t.res.toNat = cmd.toNat ∧
      EndsDone s t ∧ SameInputs s t ∧ SameHidden s t ∧ t.res2 = s.res2

/-- R472, R452, R305: in every built frame the command number, the logical payload bytes and the
checksum XOR to 0, and the wire is the start marker, the command number, the escaped payload, the
checksum and the end marker. -/
def Obligations.BuiltFrameChecksumCancels : Prop :=
  ∀ (i : Instr) (s t : State) (cmd : Byte),
    frameCommand s.cfg i = some cmd → exec i s = .next t → t.err = .none →
    ∃ (payload : List Byte) (lrc : Byte),
      t.out = [0x02#8, cmd] ++ payload.flatMap (esc s.cfg) ++
        (if s.cfg.escChk then esc s.cfg lrc else [lrc]) ++ [0x03#8] ∧
      t.res.toNat = lrc.toNat ∧ (cmd :: lrc :: payload).foldr (· ^^^ ·) 0#8 = 0#8

/-- R307: the wire lengths of the built frames: each upper bound is one more exactly when ESC_CHK is set
and the checksum, which stands in RES, is a control byte (the reading of the rule's first item is
notes/assumptions/16.md). -/
def Obligations.FrameLengthsBounded : Prop :=
  ∀ (i : Instr) (s t : State),
    exec i s = .next t → t.err = .none →
    (i ∈ [Instr.frmZero, .frmHome, .frmSync] →
      t.outLen.toNat = (if s.cfg.escChk = true ∧ t.res.setWidth 8 ∈ s.cfg.ctrl then 5 else 4)) ∧
    (i ∈ [Instr.frmJog, .frmStop] →
      9 ≤ t.outLen.toNat ∧
      t.outLen.toNat ≤ (if s.cfg.escChk = true ∧ t.res.setWidth 8 ∈ s.cfg.ctrl then 15 else 14)) ∧
    (i ∈ [Instr.frmAbs, .frmDelta] →
      8 ≤ t.outLen.toNat ∧
      t.outLen.toNat ≤ (if s.cfg.escChk = true ∧ t.res.setWidth 8 ∈ s.cfg.ctrl then 13 else 12))

/-- R813, R501: after a failed ENC16 or frame operation OUT_LEN and RES are 0 and the host has nothing to
send. That after a successful one the host has exactly OUT to send is the model's choice,
`State.sendable` (notes/assumptions/22.md). -/
def Obligations.FailedBuildSendsNothing : Prop :=
  ∀ (i : Instr) (s t : State),
    i ∈ buildingOps → exec i s = .next t →
    (t.err ≠ .none → t.outLen = 0 ∧ t.res = 0 ∧ t.sendable = none) ∧
    (t.err = .none → t.outLen ≠ 0 ∧ t.sendable = some t.out)

/-! ### Response parser and flag decoder -/

/-- R601, R600, R602, R620: RSP_PARSE on a buffer of nine bytes or more, whatever their values, and on a
shorter one. -/
def Obligations.RspParseReadsNineBytes : Prop :=
  decode 0x00000020 = .ok .rspParse ∧
  ∀ s : State, ∃ t : State, exec .rspParse s = .next t ∧
    SameInputs s t ∧ SameOut s t ∧ SameAcc s t ∧ t.unescPend = s.unescPend ∧ t.res = s.res ∧
    t.res2 = s.res2 ∧
    (9 ≤ s.inLen.toNat →
      t.rsp.ack = s.inByte 0 ∧ t.rsp.cmd = s.inByte 1 ∧ t.rsp.pan = s.inByte 2 ∧
      t.rsp.tilt = s.inByte 3 ∧ t.rsp.pstat = s.inByte 4 ∧ t.rsp.tstat = s.inByte 5 ∧
      t.rsp.gstat = s.inByte 6 ∧ t.rsp.chk = s.inByte 7 ∧ t.rsp.last = s.inByte 8 ∧
      t.flags.extractLsb' 0 8 = s.inByte 4 ∧ t.flags.extractLsb' 8 8 = s.inByte 5 ∧
      t.flags.extractLsb' 16 8 = s.inByte 6 ∧
      CodesOf (s.inByte 4) (s.inByte 5) (s.inByte 6) t.cond ∧ t.condN.toNat = t.cond.length ∧
      EndsDone s t) ∧
    (s.inLen.toNat < 9 →
      t.rsp = ⟨0, 0, 0, 0, 0, 0, 0, 0, 0⟩ ∧ t.flags = 0 ∧ t.condN = 0 ∧
      EndsRaised .malformedResponse .none t)

/-- R621, R620: FLG_DECODE. -/
def Obligations.FlgDecodeListsSetBits : Prop :=
  decode 0x00000021 = .ok .flgDecode ∧
  ∀ s : State, ∃ t : State, exec .flgDecode s = .next t ∧
    t.flags.toNat = s.argA.toNat % 2 ^ 24 ∧
    CodesOf (s.argA.extractLsb' 0 8) (s.argA.extractLsb' 8 8) (s.argA.extractLsb' 16 8) t.cond ∧
    t.condN.toNat = t.cond.length ∧
    EndsDone s t ∧ SameInputs s t ∧ SameOut s t ∧ SameAcc s t ∧ t.unescPend = s.unescPend ∧
    t.res = s.res ∧ t.res2 = s.res2 ∧ t.rsp = s.rsp

/-- R623: COND_N is the number of bits set in FLAGS after every RSP_PARSE and FLG_DECODE, and at most
24. -/
def Obligations.CondCountIsPopcount : Prop :=
  ∀ (i : Instr) (s t : State),
    i ∈ [Instr.rspParse, .flgDecode] → exec i s = .next t →
    t.condN.toNat = (List.range 24).countP (fun k => t.flags.getLsbD k) ∧ t.condN.toNat ≤ 24

/-- R611: in a response whose PanStatus is 0x80, the pan conditions are exactly the clockwise soft limit,
whatever TiltStatus and GenStatus are; with both 0 it is the only condition of all. So under every choice
of FLAG_NAME that R612 allows. -/
def Obligations.ClockwiseSoftLimitIsNamed : Prop :=
  ∀ (s : State) (names : FlagNames),
    names.wf = true → 9 ≤ s.inLen.toNat →
    s.inByte 4 = 0x80#8 →
    ∃ t : State, exec .rspParse s = .next t ∧ t.err = .none ∧
      panNames (t.conditions names) = [.clockwiseSoftLimit] ∧
      (s.inByte 5 = 0#8 → s.inByte 6 = 0#8 → t.conditions names = [some (.pan .clockwiseSoftLimit)])

/-- R612: under every choice of FLAG_NAME that the rule allows, each condition is the name of exactly one
code below 24, and each such code has a name. -/
def Obligations.FlagNamesAreBijective : Prop :=
  ∀ names : FlagNames, names.wf = true →
    (∀ c : Condition, ∃ code : Byte, code.toNat < 24 ∧ conditionName names code = some c ∧
      ∀ code' : Byte, conditionName names code' = some c → code' = code) ∧
    (∀ code : Byte, code.toNat < 24 ↔ (conditionName names code).isSome = true)

/-- R601, R812, R313: a response read from the link in chunks, loaded by LDIN and parsed: the first nine
bytes are the fields, and a shorter response is MalformedResponse. The statements that the host issues are
`responseStatements`, the model's form of R812 (notes/assumptions/22.md). -/
def Obligations.LoadedResponseIsParsed : Prop :=
  ∀ (s : State) (chunks : List (List Byte)),
    s.cfg.accepted = true →
    s.pending = programEvents s.cfg.base (responseStatements s.cfg chunks) →
    ∃ t : State,
      core.run ((min chunks.flatten.length s.cfg.inMax + 3) / 4 + 2) s = .next t ∧ t.pending = [] ∧
      (∀ b0 b1 b2 b3 b4 b5 b6 b7 b8 rest,
        chunks.flatten = b0 :: b1 :: b2 :: b3 :: b4 :: b5 :: b6 :: b7 :: b8 :: rest →
        t.rsp = ⟨b0, b1, b2, b3, b4, b5, b6, b7, b8⟩ ∧ t.err = .none) ∧
      (chunks.flatten.length < 9 → t.err = .malformedResponse ∧ t.condN = 0)

/-! ### Rules over all operations -/

/-- R700: every operation completes in its step: exec answers a next state for every operation in every
state. -/
def Obligations.EveryOperationCompletes : Prop :=
  ∀ (i : Instr) (s : State), ∃ t : State, exec i s = .next t ∧ SameInputs s t

/-- R701: which operation can report which result code; no operation of the table reports IllegalOp. -/
def Obligations.ErrorKindsByOperation : Prop :=
  ∀ (i : Instr) (s t : State), exec i s = .next t →
    (t.err = .rangeError → i ∈ [Instr.enc16, .frmJog, .frmAbs, .frmDelta]) ∧
    (t.err = .invalidArgument → i ∈ [Instr.chkRd, .chkSeq, .frmJog]) ∧
    (t.err = .malformedResponse → i ∈ [Instr.rspParse, .dec16]) ∧
    t.err ≠ .illegalOp

/-- R711: an operation that raises changes exactly the status fields and the registers its rule writes
before it raises; an illegal word changes CMD_LAST and the status fields. -/
def Obligations.ErrorsArePrecise : Prop :=
  (∀ (s : State) (w : Word) (e : DecodeError), decode w = .error e →
    s.performCommand w =
      .next { s with cmdLast := w, err := .illegalOp, errArg := .none, errSticky := true }) ∧
  ∀ (i : Instr) (s t : State), exec i s = .next t → t.err ≠ .none →
    SameInputs s t ∧ SameAcc s t ∧ t.unescPend = s.unescPend ∧ t.errSticky = true ∧
    (i ∉ buildingOps → SameOut s t) ∧ (i ∈ buildingOps → t.outLen = 0) ∧
    (i ∉ buildingOps → i ∉ [Instr.dec16, .chkRd, .chkSeq] → t.res = s.res) ∧
    (i ≠ .dec16 → t.res2 = s.res2) ∧
    (i ≠ .rspParse → t.rsp = s.rsp ∧ SameCond s t)

/-- R804: which operations write which result register. -/
def Obligations.ResultRegistersWrittenOnlyByTheirOperations : Prop :=
  ∀ (i : Instr) (s t : State), exec i s = .next t →
    (i ≠ .esc → i ∉ buildingOps → SameOut s t) ∧
    (i ∉ [Instr.unesc, .dec16, .chkRd, .chkSeq] → i ∉ buildingOps → t.res = s.res) ∧
    (i ∉ [Instr.unesc, .dec16] → t.res2 = s.res2) ∧
    (i ≠ .rspParse → t.rsp = s.rsp) ∧
    (i ∉ [Instr.rspParse, .flgDecode] → SameCond s t)

/-- R713, R710: ERR_STICKY after an operation is set exactly if it was set or the operation raised. -/
def Obligations.StickyRecordsEveryError : Prop :=
  ∀ (i : Instr) (s t : State), exec i s = .next t →
    (t.errSticky = true ↔ (s.errSticky = true ∨ t.err ≠ .none)) ∧
    (t.errArg ≠ .none → t.err ≠ .none)

/-- R713: after every host access ERR_STICKY is set exactly if it was set and the access is neither a
reset nor a host write of STATUS with bit 8 set, or the access is a CMD write whose operation, or illegal
word, ended in an error. -/
def Obligations.StickyLastsFromErrorToClear : Prop :=
  ∀ (s t : State) (e : BusEvent) (rest : List BusEvent),
    s.pending = e :: rest → step s = .next t →
    (t.errSticky = true ↔
      ((s.errSticky = true ∧ e ≠ .reset ∧
        ¬ ∃ v : Word, e = .write 32 (s.cfg.base + 0x014) v ∧ v.getLsbD 8 = true) ∨
      ((∃ w : Word, e = .write 32 s.cfg.base w) ∧ t.err ≠ .none)))

/-- R805, R114: UNESC_PEND changes only in a step that resets the block or writes the word of UNESC or
UNESC_RST to CMD. -/
def Obligations.UnescPendChangedOnlyByUnescaper : Prop :=
  ∀ s t : State, step s = .next t → t.unescPend ≠ s.unescPend →
    ∃ (e : BusEvent) (rest : List BusEvent), s.pending = e :: rest ∧
      (e = .reset ∨ e = .write 32 s.cfg.base 0x00000002#32 ∨ e = .write 32 s.cfg.base 0x00000003#32)

/-- R806, R113: ACC and ACC_N change only in a step that resets the block or writes the word of CHK_CLR
or CHK_ADD to CMD. -/
def Obligations.AccumulatorChangedOnlyByItsOperations : Prop :=
  ∀ s t : State, step s = .next t → (t.acc ≠ s.acc ∨ t.accN ≠ s.accN) →
    ∃ (e : BusEvent) (rest : List BusEvent), s.pending = e :: rest ∧
      (e = .reset ∨ e = .write 32 s.cfg.base 0x00000008#32 ∨ e = .write 32 s.cfg.base 0x00000009#32)

/-- R312, R313: `MNEMONIC`, with no operand up to three, runs the operation with its operands in A, B and
C in that order; a register that gets no operand keeps its word. That a value outside 32 bits means its
residue modulo 2^32 is the model's choice (notes/assumptions/18.md); the pending accesses and the epoch are
the model's own (notes/assumptions/3.md and 7.md). -/
def Obligations.StatementRunsOperation : Prop :=
  ∀ (s : State) (i : Instr) (vs : List Int) (rest : List BusEvent),
    s.cfg.accepted = true → vs.length ≤ 3 →
    s.pending = (Stmt.op i vs).events s.cfg.base ++ rest →
    core.run (vs.length + 1) s = exec i { s with
      argA := (vs[0]?.map (BitVec.ofInt 32)).getD s.argA,
      argB := (vs[1]?.map (BitVec.ofInt 32)).getD s.argB,
      argC := (vs[2]?.map (BitVec.ofInt 32)).getD s.argC,
      cmdLast := encode i, pending := rest, epoch := s.epoch + (vs.length + 1) }
end

