-- ==== Sys2Proof/Laws/State.lean ====
section
/-!
SUPPORT. One lemma per field per update of the state, each true by unfolding the update once, so that no
later proof unfolds a record update.
-/

namespace Sys2Proof.Machine

variable (s : State)

/-! ### setRes -/

@[simp] theorem State.setRes_cfg (v : Word) : (s.setRes v).cfg = s.cfg := rfl
@[simp] theorem State.setRes_cmdLast (v : Word) : (s.setRes v).cmdLast = s.cmdLast := rfl
@[simp] theorem State.setRes_argA (v : Word) : (s.setRes v).argA = s.argA := rfl
@[simp] theorem State.setRes_argB (v : Word) : (s.setRes v).argB = s.argB := rfl
@[simp] theorem State.setRes_argC (v : Word) : (s.setRes v).argC = s.argC := rfl
@[simp] theorem State.setRes_inBuf (v : Word) : (s.setRes v).inBuf = s.inBuf := rfl
@[simp] theorem State.setRes_inLen (v : Word) : (s.setRes v).inLen = s.inLen := rfl
@[simp] theorem State.setRes_out (v : Word) : (s.setRes v).out = s.out := rfl
@[simp] theorem State.setRes_outLen (v : Word) : (s.setRes v).outLen = s.outLen := rfl
@[simp] theorem State.setRes_res (v : Word) : (s.setRes v).res = v := rfl
@[simp] theorem State.setRes_res2 (v : Word) : (s.setRes v).res2 = s.res2 := rfl
@[simp] theorem State.setRes_err (v : Word) : (s.setRes v).err = s.err := rfl
@[simp] theorem State.setRes_errArg (v : Word) : (s.setRes v).errArg = s.errArg := rfl
@[simp] theorem State.setRes_errSticky (v : Word) : (s.setRes v).errSticky = s.errSticky := rfl
@[simp] theorem State.setRes_acc (v : Word) : (s.setRes v).acc = s.acc := rfl
@[simp] theorem State.setRes_accN (v : Word) : (s.setRes v).accN = s.accN := rfl
@[simp] theorem State.setRes_unescPend (v : Word) : (s.setRes v).unescPend = s.unescPend := rfl
@[simp] theorem State.setRes_rsp (v : Word) : (s.setRes v).rsp = s.rsp := rfl
@[simp] theorem State.setRes_flags (v : Word) : (s.setRes v).flags = s.flags := rfl
@[simp] theorem State.setRes_cond (v : Word) : (s.setRes v).cond = s.cond := rfl
@[simp] theorem State.setRes_condN (v : Word) : (s.setRes v).condN = s.condN := rfl
@[simp] theorem State.setRes_pending (v : Word) : (s.setRes v).pending = s.pending := rfl
@[simp] theorem State.setRes_lastRead (v : Word) : (s.setRes v).lastRead = s.lastRead := rfl
@[simp] theorem State.setRes_epoch (v : Word) : (s.setRes v).epoch = s.epoch := rfl

/-! ### setRes2 -/

@[simp] theorem State.setRes2_cfg (v : Word) : (s.setRes2 v).cfg = s.cfg := rfl
@[simp] theorem State.setRes2_cmdLast (v : Word) : (s.setRes2 v).cmdLast = s.cmdLast := rfl
@[simp] theorem State.setRes2_argA (v : Word) : (s.setRes2 v).argA = s.argA := rfl
@[simp] theorem State.setRes2_argB (v : Word) : (s.setRes2 v).argB = s.argB := rfl
@[simp] theorem State.setRes2_argC (v : Word) : (s.setRes2 v).argC = s.argC := rfl
@[simp] theorem State.setRes2_inBuf (v : Word) : (s.setRes2 v).inBuf = s.inBuf := rfl
@[simp] theorem State.setRes2_inLen (v : Word) : (s.setRes2 v).inLen = s.inLen := rfl
@[simp] theorem State.setRes2_out (v : Word) : (s.setRes2 v).out = s.out := rfl
@[simp] theorem State.setRes2_outLen (v : Word) : (s.setRes2 v).outLen = s.outLen := rfl
@[simp] theorem State.setRes2_res (v : Word) : (s.setRes2 v).res = s.res := rfl
@[simp] theorem State.setRes2_res2 (v : Word) : (s.setRes2 v).res2 = v := rfl
@[simp] theorem State.setRes2_err (v : Word) : (s.setRes2 v).err = s.err := rfl
@[simp] theorem State.setRes2_errArg (v : Word) : (s.setRes2 v).errArg = s.errArg := rfl
@[simp] theorem State.setRes2_errSticky (v : Word) : (s.setRes2 v).errSticky = s.errSticky := rfl
@[simp] theorem State.setRes2_acc (v : Word) : (s.setRes2 v).acc = s.acc := rfl
@[simp] theorem State.setRes2_accN (v : Word) : (s.setRes2 v).accN = s.accN := rfl
@[simp] theorem State.setRes2_unescPend (v : Word) : (s.setRes2 v).unescPend = s.unescPend := rfl
@[simp] theorem State.setRes2_rsp (v : Word) : (s.setRes2 v).rsp = s.rsp := rfl
@[simp] theorem State.setRes2_flags (v : Word) : (s.setRes2 v).flags = s.flags := rfl
@[simp] theorem State.setRes2_cond (v : Word) : (s.setRes2 v).cond = s.cond := rfl
@[simp] theorem State.setRes2_condN (v : Word) : (s.setRes2 v).condN = s.condN := rfl
@[simp] theorem State.setRes2_pending (v : Word) : (s.setRes2 v).pending = s.pending := rfl
@[simp] theorem State.setRes2_lastRead (v : Word) : (s.setRes2 v).lastRead = s.lastRead := rfl
@[simp] theorem State.setRes2_epoch (v : Word) : (s.setRes2 v).epoch = s.epoch := rfl

/-! ### setOut -/

@[simp] theorem State.setOut_cfg (bs : List Byte) : (s.setOut bs).cfg = s.cfg := rfl
@[simp] theorem State.setOut_cmdLast (bs : List Byte) : (s.setOut bs).cmdLast = s.cmdLast := rfl
@[simp] theorem State.setOut_argA (bs : List Byte) : (s.setOut bs).argA = s.argA := rfl
@[simp] theorem State.setOut_argB (bs : List Byte) : (s.setOut bs).argB = s.argB := rfl
@[simp] theorem State.setOut_argC (bs : List Byte) : (s.setOut bs).argC = s.argC := rfl
@[simp] theorem State.setOut_inBuf (bs : List Byte) : (s.setOut bs).inBuf = s.inBuf := rfl
@[simp] theorem State.setOut_inLen (bs : List Byte) : (s.setOut bs).inLen = s.inLen := rfl
@[simp] theorem State.setOut_out (bs : List Byte) : (s.setOut bs).out = bs := rfl
@[simp] theorem State.setOut_outLen (bs : List Byte) :
    (s.setOut bs).outLen = BitVec.ofNat 5 bs.length := rfl
@[simp] theorem State.setOut_res (bs : List Byte) : (s.setOut bs).res = s.res := rfl
@[simp] theorem State.setOut_res2 (bs : List Byte) : (s.setOut bs).res2 = s.res2 := rfl
@[simp] theorem State.setOut_err (bs : List Byte) : (s.setOut bs).err = s.err := rfl
@[simp] theorem State.setOut_errArg (bs : List Byte) : (s.setOut bs).errArg = s.errArg := rfl
@[simp] theorem State.setOut_errSticky (bs : List Byte) :
    (s.setOut bs).errSticky = s.errSticky := rfl
@[simp] theorem State.setOut_acc (bs : List Byte) : (s.setOut bs).acc = s.acc := rfl
@[simp] theorem State.setOut_accN (bs : List Byte) : (s.setOut bs).accN = s.accN := rfl
@[simp] theorem State.setOut_unescPend (bs : List Byte) :
    (s.setOut bs).unescPend = s.unescPend := rfl
@[simp] theorem State.setOut_rsp (bs : List Byte) : (s.setOut bs).rsp = s.rsp := rfl
@[simp] theorem State.setOut_flags (bs : List Byte) : (s.setOut bs).flags = s.flags := rfl
@[simp] theorem State.setOut_cond (bs : List Byte) : (s.setOut bs).cond = s.cond := rfl
@[simp] theorem State.setOut_condN (bs : List Byte) : (s.setOut bs).condN = s.condN := rfl
@[simp] theorem State.setOut_pending (bs : List Byte) : (s.setOut bs).pending = s.pending := rfl
@[simp] theorem State.setOut_lastRead (bs : List Byte) : (s.setOut bs).lastRead = s.lastRead := rfl
@[simp] theorem State.setOut_epoch (bs : List Byte) : (s.setOut bs).epoch = s.epoch := rfl

/-! ### setPend -/

@[simp] theorem State.setPend_cfg (p : Bool) : (s.setPend p).cfg = s.cfg := rfl
@[simp] theorem State.setPend_cmdLast (p : Bool) : (s.setPend p).cmdLast = s.cmdLast := rfl
@[simp] theorem State.setPend_argA (p : Bool) : (s.setPend p).argA = s.argA := rfl
@[simp] theorem State.setPend_argB (p : Bool) : (s.setPend p).argB = s.argB := rfl
@[simp] theorem State.setPend_argC (p : Bool) : (s.setPend p).argC = s.argC := rfl
@[simp] theorem State.setPend_inBuf (p : Bool) : (s.setPend p).inBuf = s.inBuf := rfl
@[simp] theorem State.setPend_inLen (p : Bool) : (s.setPend p).inLen = s.inLen := rfl
@[simp] theorem State.setPend_out (p : Bool) : (s.setPend p).out = s.out := rfl
@[simp] theorem State.setPend_outLen (p : Bool) : (s.setPend p).outLen = s.outLen := rfl
@[simp] theorem State.setPend_res (p : Bool) : (s.setPend p).res = s.res := rfl
@[simp] theorem State.setPend_res2 (p : Bool) : (s.setPend p).res2 = s.res2 := rfl
@[simp] theorem State.setPend_err (p : Bool) : (s.setPend p).err = s.err := rfl
@[simp] theorem State.setPend_errArg (p : Bool) : (s.setPend p).errArg = s.errArg := rfl
@[simp] theorem State.setPend_errSticky (p : Bool) : (s.setPend p).errSticky = s.errSticky := rfl
@[simp] theorem State.setPend_acc (p : Bool) : (s.setPend p).acc = s.acc := rfl
@[simp] theorem State.setPend_accN (p : Bool) : (s.setPend p).accN = s.accN := rfl
@[simp] theorem State.setPend_unescPend (p : Bool) : (s.setPend p).unescPend = p := rfl
@[simp] theorem State.setPend_rsp (p : Bool) : (s.setPend p).rsp = s.rsp := rfl
@[simp] theorem State.setPend_flags (p : Bool) : (s.setPend p).flags = s.flags := rfl
@[simp] theorem State.setPend_cond (p : Bool) : (s.setPend p).cond = s.cond := rfl
@[simp] theorem State.setPend_condN (p : Bool) : (s.setPend p).condN = s.condN := rfl
@[simp] theorem State.setPend_pending (p : Bool) : (s.setPend p).pending = s.pending := rfl
@[simp] theorem State.setPend_lastRead (p : Bool) : (s.setPend p).lastRead = s.lastRead := rfl
@[simp] theorem State.setPend_epoch (p : Bool) : (s.setPend p).epoch = s.epoch := rfl

/-! ### setAcc -/

@[simp] theorem State.setAcc_cfg (x : Byte) (n : Bool) : (s.setAcc x n).cfg = s.cfg := rfl
@[simp] theorem State.setAcc_cmdLast (x : Byte) (n : Bool) :
    (s.setAcc x n).cmdLast = s.cmdLast := rfl
@[simp] theorem State.setAcc_argA (x : Byte) (n : Bool) : (s.setAcc x n).argA = s.argA := rfl
@[simp] theorem State.setAcc_argB (x : Byte) (n : Bool) : (s.setAcc x n).argB = s.argB := rfl
@[simp] theorem State.setAcc_argC (x : Byte) (n : Bool) : (s.setAcc x n).argC = s.argC := rfl
@[simp] theorem State.setAcc_inBuf (x : Byte) (n : Bool) : (s.setAcc x n).inBuf = s.inBuf := rfl
@[simp] theorem State.setAcc_inLen (x : Byte) (n : Bool) : (s.setAcc x n).inLen = s.inLen := rfl
@[simp] theorem State.setAcc_out (x : Byte) (n : Bool) : (s.setAcc x n).out = s.out := rfl
@[simp] theorem State.setAcc_outLen (x : Byte) (n : Bool) : (s.setAcc x n).outLen = s.outLen := rfl
@[simp] theorem State.setAcc_res (x : Byte) (n : Bool) : (s.setAcc x n).res = s.res := rfl
@[simp] theorem State.setAcc_res2 (x : Byte) (n : Bool) : (s.setAcc x n).res2 = s.res2 := rfl
@[simp] theorem State.setAcc_err (x : Byte) (n : Bool) : (s.setAcc x n).err = s.err := rfl
@[simp] theorem State.setAcc_errArg (x : Byte) (n : Bool) : (s.setAcc x n).errArg = s.errArg := rfl
@[simp] theorem State.setAcc_errSticky (x : Byte) (n : Bool) :
    (s.setAcc x n).errSticky = s.errSticky := rfl
@[simp] theorem State.setAcc_acc (x : Byte) (n : Bool) : (s.setAcc x n).acc = x := rfl
@[simp] theorem State.setAcc_accN (x : Byte) (n : Bool) : (s.setAcc x n).accN = n := rfl
@[simp] theorem State.setAcc_unescPend (x : Byte) (n : Bool) :
    (s.setAcc x n).unescPend = s.unescPend := rfl
@[simp] theorem State.setAcc_rsp (x : Byte) (n : Bool) : (s.setAcc x n).rsp = s.rsp := rfl
@[simp] theorem State.setAcc_flags (x : Byte) (n : Bool) : (s.setAcc x n).flags = s.flags := rfl
@[simp] theorem State.setAcc_cond (x : Byte) (n : Bool) : (s.setAcc x n).cond = s.cond := rfl
@[simp] theorem State.setAcc_condN (x : Byte) (n : Bool) : (s.setAcc x n).condN = s.condN := rfl
@[simp] theorem State.setAcc_pending (x : Byte) (n : Bool) :
    (s.setAcc x n).pending = s.pending := rfl
@[simp] theorem State.setAcc_lastRead (x : Byte) (n : Bool) :
    (s.setAcc x n).lastRead = s.lastRead := rfl
@[simp] theorem State.setAcc_epoch (x : Byte) (n : Bool) : (s.setAcc x n).epoch = s.epoch := rfl

/-! ### setRsp -/

@[simp] theorem State.setRsp_cfg (r : Response) : (s.setRsp r).cfg = s.cfg := rfl
@[simp] theorem State.setRsp_cmdLast (r : Response) : (s.setRsp r).cmdLast = s.cmdLast := rfl
@[simp] theorem State.setRsp_argA (r : Response) : (s.setRsp r).argA = s.argA := rfl
@[simp] theorem State.setRsp_argB (r : Response) : (s.setRsp r).argB = s.argB := rfl
@[simp] theorem State.setRsp_argC (r : Response) : (s.setRsp r).argC = s.argC := rfl
@[simp] theorem State.setRsp_inBuf (r : Response) : (s.setRsp r).inBuf = s.inBuf := rfl
@[simp] theorem State.setRsp_inLen (r : Response) : (s.setRsp r).inLen = s.inLen := rfl
@[simp] theorem State.setRsp_out (r : Response) : (s.setRsp r).out = s.out := rfl
@[simp] theorem State.setRsp_outLen (r : Response) : (s.setRsp r).outLen = s.outLen := rfl
@[simp] theorem State.setRsp_res (r : Response) : (s.setRsp r).res = s.res := rfl
@[simp] theorem State.setRsp_res2 (r : Response) : (s.setRsp r).res2 = s.res2 := rfl
@[simp] theorem State.setRsp_err (r : Response) : (s.setRsp r).err = s.err := rfl
@[simp] theorem State.setRsp_errArg (r : Response) : (s.setRsp r).errArg = s.errArg := rfl
@[simp] theorem State.setRsp_errSticky (r : Response) : (s.setRsp r).errSticky = s.errSticky := rfl
@[simp] theorem State.setRsp_acc (r : Response) : (s.setRsp r).acc = s.acc := rfl
@[simp] theorem State.setRsp_accN (r : Response) : (s.setRsp r).accN = s.accN := rfl
@[simp] theorem State.setRsp_unescPend (r : Response) : (s.setRsp r).unescPend = s.unescPend := rfl
@[simp] theorem State.setRsp_rsp (r : Response) : (s.setRsp r).rsp = r := rfl
@[simp] theorem State.setRsp_flags (r : Response) : (s.setRsp r).flags = s.flags := rfl
@[simp] theorem State.setRsp_cond (r : Response) : (s.setRsp r).cond = s.cond := rfl
@[simp] theorem State.setRsp_condN (r : Response) : (s.setRsp r).condN = s.condN := rfl
@[simp] theorem State.setRsp_pending (r : Response) : (s.setRsp r).pending = s.pending := rfl
@[simp] theorem State.setRsp_lastRead (r : Response) : (s.setRsp r).lastRead = s.lastRead := rfl
@[simp] theorem State.setRsp_epoch (r : Response) : (s.setRsp r).epoch = s.epoch := rfl

/-! ### setCond -/

@[simp] theorem State.setCond_cfg (f : BitVec 24) (cs : List Byte) :
    (s.setCond f cs).cfg = s.cfg := rfl
@[simp] theorem State.setCond_cmdLast (f : BitVec 24) (cs : List Byte) :
    (s.setCond f cs).cmdLast = s.cmdLast := rfl
@[simp] theorem State.setCond_argA (f : BitVec 24) (cs : List Byte) :
    (s.setCond f cs).argA = s.argA := rfl
@[simp] theorem State.setCond_argB (f : BitVec 24) (cs : List Byte) :
    (s.setCond f cs).argB = s.argB := rfl
@[simp] theorem State.setCond_argC (f : BitVec 24) (cs : List Byte) :
    (s.setCond f cs).argC = s.argC := rfl
@[simp] theorem State.setCond_inBuf (f : BitVec 24) (cs : List Byte) :
    (s.setCond f cs).inBuf = s.inBuf := rfl
@[simp] theorem State.setCond_inLen (f : BitVec 24) (cs : List Byte) :
    (s.setCond f cs).inLen = s.inLen := rfl
@[simp] theorem State.setCond_out (f : BitVec 24) (cs : List Byte) :
    (s.setCond f cs).out = s.out := rfl
@[simp] theorem State.setCond_outLen (f : BitVec 24) (cs : List Byte) :
    (s.setCond f cs).outLen = s.outLen := rfl
@[simp] theorem State.setCond_res (f : BitVec 24) (cs : List Byte) :
    (s.setCond f cs).res = s.res := rfl
@[simp] theorem State.setCond_res2 (f : BitVec 24) (cs : List Byte) :
    (s.setCond f cs).res2 = s.res2 := rfl
@[simp] theorem State.setCond_err (f : BitVec 24) (cs : List Byte) :
    (s.setCond f cs).err = s.err := rfl
@[simp] theorem State.setCond_errArg (f : BitVec 24) (cs : List Byte) :
    (s.setCond f cs).errArg = s.errArg := rfl
@[simp] theorem State.setCond_errSticky (f : BitVec 24) (cs : List Byte) :
    (s.setCond f cs).errSticky = s.errSticky := rfl
@[simp] theorem State.setCond_acc (f : BitVec 24) (cs : List Byte) :
    (s.setCond f cs).acc = s.acc := rfl
@[simp] theorem State.setCond_accN (f : BitVec 24) (cs : List Byte) :
    (s.setCond f cs).accN = s.accN := rfl
@[simp] theorem State.setCond_unescPend (f : BitVec 24) (cs : List Byte) :
    (s.setCond f cs).unescPend = s.unescPend := rfl
@[simp] theorem State.setCond_rsp (f : BitVec 24) (cs : List Byte) :
    (s.setCond f cs).rsp = s.rsp := rfl
@[simp] theorem State.setCond_flags (f : BitVec 24) (cs : List Byte) :
    (s.setCond f cs).flags = f := rfl
@[simp] theorem State.setCond_cond (f : BitVec 24) (cs : List Byte) :
    (s.setCond f cs).cond = cs := rfl
@[simp] theorem State.setCond_condN (f : BitVec 24) (cs : List Byte) :
    (s.setCond f cs).condN = BitVec.ofNat 5 cs.length := rfl
@[simp] theorem State.setCond_pending (f : BitVec 24) (cs : List Byte) :
    (s.setCond f cs).pending = s.pending := rfl
@[simp] theorem State.setCond_lastRead (f : BitVec 24) (cs : List Byte) :
    (s.setCond f cs).lastRead = s.lastRead := rfl
@[simp] theorem State.setCond_epoch (f : BitVec 24) (cs : List Byte) :
    (s.setCond f cs).epoch = s.epoch := rfl

/-! ### done -/

@[simp] theorem State.done_cfg : s.done.cfg = s.cfg := rfl
@[simp] theorem State.done_cmdLast : s.done.cmdLast = s.cmdLast := rfl
@[simp] theorem State.done_argA : s.done.argA = s.argA := rfl
@[simp] theorem State.done_argB : s.done.argB = s.argB := rfl
@[simp] theorem State.done_argC : s.done.argC = s.argC := rfl
@[simp] theorem State.done_inBuf : s.done.inBuf = s.inBuf := rfl
@[simp] theorem State.done_inLen : s.done.inLen = s.inLen := rfl
@[simp] theorem State.done_out : s.done.out = s.out := rfl
@[simp] theorem State.done_outLen : s.done.outLen = s.outLen := rfl
@[simp] theorem State.done_res : s.done.res = s.res := rfl
@[simp] theorem State.done_res2 : s.done.res2 = s.res2 := rfl
@[simp] theorem State.done_err : s.done.err = .none := rfl
@[simp] theorem State.done_errArg : s.done.errArg = .none := rfl
@[simp] theorem State.done_errSticky : s.done.errSticky = s.errSticky := rfl
@[simp] theorem State.done_acc : s.done.acc = s.acc := rfl
@[simp] theorem State.done_accN : s.done.accN = s.accN := rfl
@[simp] theorem State.done_unescPend : s.done.unescPend = s.unescPend := rfl
@[simp] theorem State.done_rsp : s.done.rsp = s.rsp := rfl
@[simp] theorem State.done_flags : s.done.flags = s.flags := rfl
@[simp] theorem State.done_cond : s.done.cond = s.cond := rfl
@[simp] theorem State.done_condN : s.done.condN = s.condN := rfl
@[simp] theorem State.done_pending : s.done.pending = s.pending := rfl
@[simp] theorem State.done_lastRead : s.done.lastRead = s.lastRead := rfl
@[simp] theorem State.done_epoch : s.done.epoch = s.epoch := rfl

/-! ### raise -/

@[simp] theorem State.raise_cfg (e : ErrKind) (arg : ErrArg) : (s.raise e arg).cfg = s.cfg := rfl
@[simp] theorem State.raise_cmdLast (e : ErrKind) (arg : ErrArg) :
    (s.raise e arg).cmdLast = s.cmdLast := rfl
@[simp] theorem State.raise_argA (e : ErrKind) (arg : ErrArg) :
    (s.raise e arg).argA = s.argA := rfl
@[simp] theorem State.raise_argB (e : ErrKind) (arg : ErrArg) :
    (s.raise e arg).argB = s.argB := rfl
@[simp] theorem State.raise_argC (e : ErrKind) (arg : ErrArg) :
    (s.raise e arg).argC = s.argC := rfl
@[simp] theorem State.raise_inBuf (e : ErrKind) (arg : ErrArg) :
    (s.raise e arg).inBuf = s.inBuf := rfl
@[simp] theorem State.raise_inLen (e : ErrKind) (arg : ErrArg) :
    (s.raise e arg).inLen = s.inLen := rfl
@[simp] theorem State.raise_out (e : ErrKind) (arg : ErrArg) : (s.raise e arg).out = s.out := rfl
@[simp] theorem State.raise_outLen (e : ErrKind) (arg : ErrArg) :
    (s.raise e arg).outLen = s.outLen := rfl
@[simp] theorem State.raise_res (e : ErrKind) (arg : ErrArg) : (s.raise e arg).res = s.res := rfl
@[simp] theorem State.raise_res2 (e : ErrKind) (arg : ErrArg) :
    (s.raise e arg).res2 = s.res2 := rfl
@[simp] theorem State.raise_err (e : ErrKind) (arg : ErrArg) : (s.raise e arg).err = e := rfl
@[simp] theorem State.raise_errArg (e : ErrKind) (arg : ErrArg) :
    (s.raise e arg).errArg = arg := rfl
@[simp] theorem State.raise_errSticky (e : ErrKind) (arg : ErrArg) :
    (s.raise e arg).errSticky = true := rfl
@[simp] theorem State.raise_acc (e : ErrKind) (arg : ErrArg) : (s.raise e arg).acc = s.acc := rfl
@[simp] theorem State.raise_accN (e : ErrKind) (arg : ErrArg) :
    (s.raise e arg).accN = s.accN := rfl
@[simp] theorem State.raise_unescPend (e : ErrKind) (arg : ErrArg) :
    (s.raise e arg).unescPend = s.unescPend := rfl
@[simp] theorem State.raise_rsp (e : ErrKind) (arg : ErrArg) : (s.raise e arg).rsp = s.rsp := rfl
@[simp] theorem State.raise_flags (e : ErrKind) (arg : ErrArg) :
    (s.raise e arg).flags = s.flags := rfl
@[simp] theorem State.raise_cond (e : ErrKind) (arg : ErrArg) :
    (s.raise e arg).cond = s.cond := rfl
@[simp] theorem State.raise_condN (e : ErrKind) (arg : ErrArg) :
    (s.raise e arg).condN = s.condN := rfl
@[simp] theorem State.raise_pending (e : ErrKind) (arg : ErrArg) :
    (s.raise e arg).pending = s.pending := rfl
@[simp] theorem State.raise_lastRead (e : ErrKind) (arg : ErrArg) :
    (s.raise e arg).lastRead = s.lastRead := rfl
@[simp] theorem State.raise_epoch (e : ErrKind) (arg : ErrArg) :
    (s.raise e arg).epoch = s.epoch := rfl

/-! ### failBuild -/

@[simp] theorem State.failBuild_cfg (e : ErrKind) (arg : ErrArg) :
    (s.failBuild e arg).cfg = s.cfg := rfl
@[simp] theorem State.failBuild_cmdLast (e : ErrKind) (arg : ErrArg) :
    (s.failBuild e arg).cmdLast = s.cmdLast := rfl
@[simp] theorem State.failBuild_argA (e : ErrKind) (arg : ErrArg) :
    (s.failBuild e arg).argA = s.argA := rfl
@[simp] theorem State.failBuild_argB (e : ErrKind) (arg : ErrArg) :
    (s.failBuild e arg).argB = s.argB := rfl
@[simp] theorem State.failBuild_argC (e : ErrKind) (arg : ErrArg) :
    (s.failBuild e arg).argC = s.argC := rfl
@[simp] theorem State.failBuild_inBuf (e : ErrKind) (arg : ErrArg) :
    (s.failBuild e arg).inBuf = s.inBuf := rfl
@[simp] theorem State.failBuild_inLen (e : ErrKind) (arg : ErrArg) :
    (s.failBuild e arg).inLen = s.inLen := rfl
@[simp] theorem State.failBuild_out (e : ErrKind) (arg : ErrArg) :
    (s.failBuild e arg).out = [] := rfl
@[simp] theorem State.failBuild_outLen (e : ErrKind) (arg : ErrArg) :
    (s.failBuild e arg).outLen = 0 := rfl
@[simp] theorem State.failBuild_res (e : ErrKind) (arg : ErrArg) :
    (s.failBuild e arg).res = 0 := rfl
@[simp] theorem State.failBuild_res2 (e : ErrKind) (arg : ErrArg) :
    (s.failBuild e arg).res2 = s.res2 := rfl
@[simp] theorem State.failBuild_err (e : ErrKind) (arg : ErrArg) :
    (s.failBuild e arg).err = e := rfl
@[simp] theorem State.failBuild_errArg (e : ErrKind) (arg : ErrArg) :
    (s.failBuild e arg).errArg = arg := rfl
@[simp] theorem State.failBuild_errSticky (e : ErrKind) (arg : ErrArg) :
    (s.failBuild e arg).errSticky = true := rfl
@[simp] theorem State.failBuild_acc (e : ErrKind) (arg : ErrArg) :
    (s.failBuild e arg).acc = s.acc := rfl
@[simp] theorem State.failBuild_accN (e : ErrKind) (arg : ErrArg) :
    (s.failBuild e arg).accN = s.accN := rfl
@[simp] theorem State.failBuild_unescPend (e : ErrKind) (arg : ErrArg) :
    (s.failBuild e arg).unescPend = s.unescPend := rfl
@[simp] theorem State.failBuild_rsp (e : ErrKind) (arg : ErrArg) :
    (s.failBuild e arg).rsp = s.rsp := rfl
@[simp] theorem State.failBuild_flags (e : ErrKind) (arg : ErrArg) :
    (s.failBuild e arg).flags = s.flags := rfl
@[simp] theorem State.failBuild_cond (e : ErrKind) (arg : ErrArg) :
    (s.failBuild e arg).cond = s.cond := rfl
@[simp] theorem State.failBuild_condN (e : ErrKind) (arg : ErrArg) :
    (s.failBuild e arg).condN = s.condN := rfl
@[simp] theorem State.failBuild_pending (e : ErrKind) (arg : ErrArg) :
    (s.failBuild e arg).pending = s.pending := rfl
@[simp] theorem State.failBuild_lastRead (e : ErrKind) (arg : ErrArg) :
    (s.failBuild e arg).lastRead = s.lastRead := rfl
@[simp] theorem State.failBuild_epoch (e : ErrKind) (arg : ErrArg) :
    (s.failBuild e arg).epoch = s.epoch := rfl

/-! ### build -/

@[simp] theorem State.build_cfg (cmd : Byte) (p : List Byte) : (s.build cmd p).cfg = s.cfg := rfl
@[simp] theorem State.build_cmdLast (cmd : Byte) (p : List Byte) :
    (s.build cmd p).cmdLast = s.cmdLast := rfl
@[simp] theorem State.build_argA (cmd : Byte) (p : List Byte) :
    (s.build cmd p).argA = s.argA := rfl
@[simp] theorem State.build_argB (cmd : Byte) (p : List Byte) :
    (s.build cmd p).argB = s.argB := rfl
@[simp] theorem State.build_argC (cmd : Byte) (p : List Byte) :
    (s.build cmd p).argC = s.argC := rfl
@[simp] theorem State.build_inBuf (cmd : Byte) (p : List Byte) :
    (s.build cmd p).inBuf = s.inBuf := rfl
@[simp] theorem State.build_inLen (cmd : Byte) (p : List Byte) :
    (s.build cmd p).inLen = s.inLen := rfl
@[simp] theorem State.build_out (cmd : Byte) (p : List Byte) :
    (s.build cmd p).out = frameBytes s.cfg cmd p := rfl
@[simp] theorem State.build_outLen (cmd : Byte) (p : List Byte) :
    (s.build cmd p).outLen = BitVec.ofNat 5 (frameBytes s.cfg cmd p).length := rfl
@[simp] theorem State.build_res (cmd : Byte) (p : List Byte) :
    (s.build cmd p).res = (frameLrc cmd p).setWidth 32 := rfl
@[simp] theorem State.build_res2 (cmd : Byte) (p : List Byte) :
    (s.build cmd p).res2 = s.res2 := rfl
@[simp] theorem State.build_err (cmd : Byte) (p : List Byte) : (s.build cmd p).err = .none := rfl
@[simp] theorem State.build_errArg (cmd : Byte) (p : List Byte) :
    (s.build cmd p).errArg = .none := rfl
@[simp] theorem State.build_errSticky (cmd : Byte) (p : List Byte) :
    (s.build cmd p).errSticky = s.errSticky := rfl
@[simp] theorem State.build_acc (cmd : Byte) (p : List Byte) : (s.build cmd p).acc = s.acc := rfl
@[simp] theorem State.build_accN (cmd : Byte) (p : List Byte) :
    (s.build cmd p).accN = s.accN := rfl
@[simp] theorem State.build_unescPend (cmd : Byte) (p : List Byte) :
    (s.build cmd p).unescPend = s.unescPend := rfl
@[simp] theorem State.build_rsp (cmd : Byte) (p : List Byte) : (s.build cmd p).rsp = s.rsp := rfl
@[simp] theorem State.build_flags (cmd : Byte) (p : List Byte) :
    (s.build cmd p).flags = s.flags := rfl
@[simp] theorem State.build_cond (cmd : Byte) (p : List Byte) :
    (s.build cmd p).cond = s.cond := rfl
@[simp] theorem State.build_condN (cmd : Byte) (p : List Byte) :
    (s.build cmd p).condN = s.condN := rfl
@[simp] theorem State.build_pending (cmd : Byte) (p : List Byte) :
    (s.build cmd p).pending = s.pending := rfl
@[simp] theorem State.build_lastRead (cmd : Byte) (p : List Byte) :
    (s.build cmd p).lastRead = s.lastRead := rfl
@[simp] theorem State.build_epoch (cmd : Byte) (p : List Byte) :
    (s.build cmd p).epoch = s.epoch := rfl

/-! ### decodeFlags -/

@[simp] theorem State.decodeFlags_cfg (p t g : Byte) : (s.decodeFlags p t g).cfg = s.cfg := rfl
@[simp] theorem State.decodeFlags_cmdLast (p t g : Byte) :
    (s.decodeFlags p t g).cmdLast = s.cmdLast := rfl
@[simp] theorem State.decodeFlags_argA (p t g : Byte) : (s.decodeFlags p t g).argA = s.argA := rfl
@[simp] theorem State.decodeFlags_argB (p t g : Byte) : (s.decodeFlags p t g).argB = s.argB := rfl
@[simp] theorem State.decodeFlags_argC (p t g : Byte) : (s.decodeFlags p t g).argC = s.argC := rfl
@[simp] theorem State.decodeFlags_inBuf (p t g : Byte) :
    (s.decodeFlags p t g).inBuf = s.inBuf := rfl
@[simp] theorem State.decodeFlags_inLen (p t g : Byte) :
    (s.decodeFlags p t g).inLen = s.inLen := rfl
@[simp] theorem State.decodeFlags_out (p t g : Byte) : (s.decodeFlags p t g).out = s.out := rfl
@[simp] theorem State.decodeFlags_outLen (p t g : Byte) :
    (s.decodeFlags p t g).outLen = s.outLen := rfl
@[simp] theorem State.decodeFlags_res (p t g : Byte) : (s.decodeFlags p t g).res = s.res := rfl
@[simp] theorem State.decodeFlags_res2 (p t g : Byte) : (s.decodeFlags p t g).res2 = s.res2 := rfl
@[simp] theorem State.decodeFlags_err (p t g : Byte) : (s.decodeFlags p t g).err = s.err := rfl
@[simp] theorem State.decodeFlags_errArg (p t g : Byte) :
    (s.decodeFlags p t g).errArg = s.errArg := rfl
@[simp] theorem State.decodeFlags_errSticky (p t g : Byte) :
    (s.decodeFlags p t g).errSticky = s.errSticky := rfl
@[simp] theorem State.decodeFlags_acc (p t g : Byte) : (s.decodeFlags p t g).acc = s.acc := rfl
@[simp] theorem State.decodeFlags_accN (p t g : Byte) : (s.decodeFlags p t g).accN = s.accN := rfl
@[simp] theorem State.decodeFlags_unescPend (p t g : Byte) :
    (s.decodeFlags p t g).unescPend = s.unescPend := rfl
@[simp] theorem State.decodeFlags_rsp (p t g : Byte) : (s.decodeFlags p t g).rsp = s.rsp := rfl
@[simp] theorem State.decodeFlags_flags (p t g : Byte) :
    (s.decodeFlags p t g).flags = flagsOf p t g := rfl
@[simp] theorem State.decodeFlags_cond (p t g : Byte) :
    (s.decodeFlags p t g).cond = condCodes p t g := rfl
@[simp] theorem State.decodeFlags_condN (p t g : Byte) :
    (s.decodeFlags p t g).condN = BitVec.ofNat 5 (condCodes p t g).length := rfl
@[simp] theorem State.decodeFlags_pending (p t g : Byte) :
    (s.decodeFlags p t g).pending = s.pending := rfl
@[simp] theorem State.decodeFlags_lastRead (p t g : Byte) :
    (s.decodeFlags p t g).lastRead = s.lastRead := rfl
@[simp] theorem State.decodeFlags_epoch (p t g : Byte) :
    (s.decodeFlags p t g).epoch = s.epoch := rfl

/-! ### setPending -/

@[simp] theorem State.setPending_cfg (es : List BusEvent) : (s.setPending es).cfg = s.cfg := rfl
@[simp] theorem State.setPending_cmdLast (es : List BusEvent) :
    (s.setPending es).cmdLast = s.cmdLast := rfl
@[simp] theorem State.setPending_argA (es : List BusEvent) : (s.setPending es).argA = s.argA := rfl
@[simp] theorem State.setPending_argB (es : List BusEvent) : (s.setPending es).argB = s.argB := rfl
@[simp] theorem State.setPending_argC (es : List BusEvent) : (s.setPending es).argC = s.argC := rfl
@[simp] theorem State.setPending_inBuf (es : List BusEvent) :
    (s.setPending es).inBuf = s.inBuf := rfl
@[simp] theorem State.setPending_inLen (es : List BusEvent) :
    (s.setPending es).inLen = s.inLen := rfl
@[simp] theorem State.setPending_out (es : List BusEvent) : (s.setPending es).out = s.out := rfl
@[simp] theorem State.setPending_outLen (es : List BusEvent) :
    (s.setPending es).outLen = s.outLen := rfl
@[simp] theorem State.setPending_res (es : List BusEvent) : (s.setPending es).res = s.res := rfl
@[simp] theorem State.setPending_res2 (es : List BusEvent) : (s.setPending es).res2 = s.res2 := rfl
@[simp] theorem State.setPending_err (es : List BusEvent) : (s.setPending es).err = s.err := rfl
@[simp] theorem State.setPending_errArg (es : List BusEvent) :
    (s.setPending es).errArg = s.errArg := rfl
@[simp] theorem State.setPending_errSticky (es : List BusEvent) :
    (s.setPending es).errSticky = s.errSticky := rfl
@[simp] theorem State.setPending_acc (es : List BusEvent) : (s.setPending es).acc = s.acc := rfl
@[simp] theorem State.setPending_accN (es : List BusEvent) : (s.setPending es).accN = s.accN := rfl
@[simp] theorem State.setPending_unescPend (es : List BusEvent) :
    (s.setPending es).unescPend = s.unescPend := rfl
@[simp] theorem State.setPending_rsp (es : List BusEvent) : (s.setPending es).rsp = s.rsp := rfl
@[simp] theorem State.setPending_flags (es : List BusEvent) :
    (s.setPending es).flags = s.flags := rfl
@[simp] theorem State.setPending_cond (es : List BusEvent) : (s.setPending es).cond = s.cond := rfl
@[simp] theorem State.setPending_condN (es : List BusEvent) :
    (s.setPending es).condN = s.condN := rfl
@[simp] theorem State.setPending_pending (es : List BusEvent) :
    (s.setPending es).pending = es := rfl
@[simp] theorem State.setPending_lastRead (es : List BusEvent) :
    (s.setPending es).lastRead = s.lastRead := rfl
@[simp] theorem State.setPending_epoch (es : List BusEvent) :
    (s.setPending es).epoch = s.epoch := rfl

/-! ### setLastRead -/

@[simp] theorem State.setLastRead_cfg (v : Word) : (s.setLastRead v).cfg = s.cfg := rfl
@[simp] theorem State.setLastRead_cmdLast (v : Word) : (s.setLastRead v).cmdLast = s.cmdLast := rfl
@[simp] theorem State.setLastRead_argA (v : Word) : (s.setLastRead v).argA = s.argA := rfl
@[simp] theorem State.setLastRead_argB (v : Word) : (s.setLastRead v).argB = s.argB := rfl
@[simp] theorem State.setLastRead_argC (v : Word) : (s.setLastRead v).argC = s.argC := rfl
@[simp] theorem State.setLastRead_inBuf (v : Word) : (s.setLastRead v).inBuf = s.inBuf := rfl
@[simp] theorem State.setLastRead_inLen (v : Word) : (s.setLastRead v).inLen = s.inLen := rfl
@[simp] theorem State.setLastRead_out (v : Word) : (s.setLastRead v).out = s.out := rfl
@[simp] theorem State.setLastRead_outLen (v : Word) : (s.setLastRead v).outLen = s.outLen := rfl
@[simp] theorem State.setLastRead_res (v : Word) : (s.setLastRead v).res = s.res := rfl
@[simp] theorem State.setLastRead_res2 (v : Word) : (s.setLastRead v).res2 = s.res2 := rfl
@[simp] theorem State.setLastRead_err (v : Word) : (s.setLastRead v).err = s.err := rfl
@[simp] theorem State.setLastRead_errArg (v : Word) : (s.setLastRead v).errArg = s.errArg := rfl
@[simp] theorem State.setLastRead_errSticky (v : Word) :
    (s.setLastRead v).errSticky = s.errSticky := rfl
@[simp] theorem State.setLastRead_acc (v : Word) : (s.setLastRead v).acc = s.acc := rfl
@[simp] theorem State.setLastRead_accN (v : Word) : (s.setLastRead v).accN = s.accN := rfl
@[simp] theorem State.setLastRead_unescPend (v : Word) :
    (s.setLastRead v).unescPend = s.unescPend := rfl
@[simp] theorem State.setLastRead_rsp (v : Word) : (s.setLastRead v).rsp = s.rsp := rfl
@[simp] theorem State.setLastRead_flags (v : Word) : (s.setLastRead v).flags = s.flags := rfl
@[simp] theorem State.setLastRead_cond (v : Word) : (s.setLastRead v).cond = s.cond := rfl
@[simp] theorem State.setLastRead_condN (v : Word) : (s.setLastRead v).condN = s.condN := rfl
@[simp] theorem State.setLastRead_pending (v : Word) : (s.setLastRead v).pending = s.pending := rfl
@[simp] theorem State.setLastRead_lastRead (v : Word) : (s.setLastRead v).lastRead = some v := rfl
@[simp] theorem State.setLastRead_epoch (v : Word) : (s.setLastRead v).epoch = s.epoch := rfl

/-! ### tick -/

@[simp] theorem State.tick_cfg : s.tick.cfg = s.cfg := rfl
@[simp] theorem State.tick_cmdLast : s.tick.cmdLast = s.cmdLast := rfl
@[simp] theorem State.tick_argA : s.tick.argA = s.argA := rfl
@[simp] theorem State.tick_argB : s.tick.argB = s.argB := rfl
@[simp] theorem State.tick_argC : s.tick.argC = s.argC := rfl
@[simp] theorem State.tick_inBuf : s.tick.inBuf = s.inBuf := rfl
@[simp] theorem State.tick_inLen : s.tick.inLen = s.inLen := rfl
@[simp] theorem State.tick_out : s.tick.out = s.out := rfl
@[simp] theorem State.tick_outLen : s.tick.outLen = s.outLen := rfl
@[simp] theorem State.tick_res : s.tick.res = s.res := rfl
@[simp] theorem State.tick_res2 : s.tick.res2 = s.res2 := rfl
@[simp] theorem State.tick_err : s.tick.err = s.err := rfl
@[simp] theorem State.tick_errArg : s.tick.errArg = s.errArg := rfl
@[simp] theorem State.tick_errSticky : s.tick.errSticky = s.errSticky := rfl
@[simp] theorem State.tick_acc : s.tick.acc = s.acc := rfl
@[simp] theorem State.tick_accN : s.tick.accN = s.accN := rfl
@[simp] theorem State.tick_unescPend : s.tick.unescPend = s.unescPend := rfl
@[simp] theorem State.tick_rsp : s.tick.rsp = s.rsp := rfl
@[simp] theorem State.tick_flags : s.tick.flags = s.flags := rfl
@[simp] theorem State.tick_cond : s.tick.cond = s.cond := rfl
@[simp] theorem State.tick_condN : s.tick.condN = s.condN := rfl
@[simp] theorem State.tick_pending : s.tick.pending = s.pending := rfl
@[simp] theorem State.tick_lastRead : s.tick.lastRead = s.lastRead := rfl
@[simp] theorem State.tick_epoch : s.tick.epoch = s.epoch + 1 := rfl

/-! ### setCmdLast -/

@[simp] theorem State.setCmdLast_cfg (w : Word) : (s.setCmdLast w).cfg = s.cfg := rfl
@[simp] theorem State.setCmdLast_cmdLast (w : Word) : (s.setCmdLast w).cmdLast = w := rfl
@[simp] theorem State.setCmdLast_argA (w : Word) : (s.setCmdLast w).argA = s.argA := rfl
@[simp] theorem State.setCmdLast_argB (w : Word) : (s.setCmdLast w).argB = s.argB := rfl
@[simp] theorem State.setCmdLast_argC (w : Word) : (s.setCmdLast w).argC = s.argC := rfl
@[simp] theorem State.setCmdLast_inBuf (w : Word) : (s.setCmdLast w).inBuf = s.inBuf := rfl
@[simp] theorem State.setCmdLast_inLen (w : Word) : (s.setCmdLast w).inLen = s.inLen := rfl
@[simp] theorem State.setCmdLast_out (w : Word) : (s.setCmdLast w).out = s.out := rfl
@[simp] theorem State.setCmdLast_outLen (w : Word) : (s.setCmdLast w).outLen = s.outLen := rfl
@[simp] theorem State.setCmdLast_res (w : Word) : (s.setCmdLast w).res = s.res := rfl
@[simp] theorem State.setCmdLast_res2 (w : Word) : (s.setCmdLast w).res2 = s.res2 := rfl
@[simp] theorem State.setCmdLast_err (w : Word) : (s.setCmdLast w).err = s.err := rfl
@[simp] theorem State.setCmdLast_errArg (w : Word) : (s.setCmdLast w).errArg = s.errArg := rfl
@[simp] theorem State.setCmdLast_errSticky (w : Word) :
    (s.setCmdLast w).errSticky = s.errSticky := rfl
@[simp] theorem State.setCmdLast_acc (w : Word) : (s.setCmdLast w).acc = s.acc := rfl
@[simp] theorem State.setCmdLast_accN (w : Word) : (s.setCmdLast w).accN = s.accN := rfl
@[simp] theorem State.setCmdLast_unescPend (w : Word) :
    (s.setCmdLast w).unescPend = s.unescPend := rfl
@[simp] theorem State.setCmdLast_rsp (w : Word) : (s.setCmdLast w).rsp = s.rsp := rfl
@[simp] theorem State.setCmdLast_flags (w : Word) : (s.setCmdLast w).flags = s.flags := rfl
@[simp] theorem State.setCmdLast_cond (w : Word) : (s.setCmdLast w).cond = s.cond := rfl
@[simp] theorem State.setCmdLast_condN (w : Word) : (s.setCmdLast w).condN = s.condN := rfl
@[simp] theorem State.setCmdLast_pending (w : Word) : (s.setCmdLast w).pending = s.pending := rfl
@[simp] theorem State.setCmdLast_lastRead (w : Word) :
    (s.setCmdLast w).lastRead = s.lastRead := rfl
@[simp] theorem State.setCmdLast_epoch (w : Word) : (s.setCmdLast w).epoch = s.epoch := rfl

/-! ### setArgA -/

@[simp] theorem State.setArgA_cfg (v : Word) : (s.setArgA v).cfg = s.cfg := rfl
@[simp] theorem State.setArgA_cmdLast (v : Word) : (s.setArgA v).cmdLast = s.cmdLast := rfl
@[simp] theorem State.setArgA_argA (v : Word) : (s.setArgA v).argA = v := rfl
@[simp] theorem State.setArgA_argB (v : Word) : (s.setArgA v).argB = s.argB := rfl
@[simp] theorem State.setArgA_argC (v : Word) : (s.setArgA v).argC = s.argC := rfl
@[simp] theorem State.setArgA_inBuf (v : Word) : (s.setArgA v).inBuf = s.inBuf := rfl
@[simp] theorem State.setArgA_inLen (v : Word) : (s.setArgA v).inLen = s.inLen := rfl
@[simp] theorem State.setArgA_out (v : Word) : (s.setArgA v).out = s.out := rfl
@[simp] theorem State.setArgA_outLen (v : Word) : (s.setArgA v).outLen = s.outLen := rfl
@[simp] theorem State.setArgA_res (v : Word) : (s.setArgA v).res = s.res := rfl
@[simp] theorem State.setArgA_res2 (v : Word) : (s.setArgA v).res2 = s.res2 := rfl
@[simp] theorem State.setArgA_err (v : Word) : (s.setArgA v).err = s.err := rfl
@[simp] theorem State.setArgA_errArg (v : Word) : (s.setArgA v).errArg = s.errArg := rfl
@[simp] theorem State.setArgA_errSticky (v : Word) : (s.setArgA v).errSticky = s.errSticky := rfl
@[simp] theorem State.setArgA_acc (v : Word) : (s.setArgA v).acc = s.acc := rfl
@[simp] theorem State.setArgA_accN (v : Word) : (s.setArgA v).accN = s.accN := rfl
@[simp] theorem State.setArgA_unescPend (v : Word) : (s.setArgA v).unescPend = s.unescPend := rfl
@[simp] theorem State.setArgA_rsp (v : Word) : (s.setArgA v).rsp = s.rsp := rfl
@[simp] theorem State.setArgA_flags (v : Word) : (s.setArgA v).flags = s.flags := rfl
@[simp] theorem State.setArgA_cond (v : Word) : (s.setArgA v).cond = s.cond := rfl
@[simp] theorem State.setArgA_condN (v : Word) : (s.setArgA v).condN = s.condN := rfl
@[simp] theorem State.setArgA_pending (v : Word) : (s.setArgA v).pending = s.pending := rfl
@[simp] theorem State.setArgA_lastRead (v : Word) : (s.setArgA v).lastRead = s.lastRead := rfl
@[simp] theorem State.setArgA_epoch (v : Word) : (s.setArgA v).epoch = s.epoch := rfl

/-! ### setArgB -/

@[simp] theorem State.setArgB_cfg (v : Word) : (s.setArgB v).cfg = s.cfg := rfl
@[simp] theorem State.setArgB_cmdLast (v : Word) : (s.setArgB v).cmdLast = s.cmdLast := rfl
@[simp] theorem State.setArgB_argA (v : Word) : (s.setArgB v).argA = s.argA := rfl
@[simp] theorem State.setArgB_argB (v : Word) : (s.setArgB v).argB = v := rfl
@[simp] theorem State.setArgB_argC (v : Word) : (s.setArgB v).argC = s.argC := rfl
@[simp] theorem State.setArgB_inBuf (v : Word) : (s.setArgB v).inBuf = s.inBuf := rfl
@[simp] theorem State.setArgB_inLen (v : Word) : (s.setArgB v).inLen = s.inLen := rfl
@[simp] theorem State.setArgB_out (v : Word) : (s.setArgB v).out = s.out := rfl
@[simp] theorem State.setArgB_outLen (v : Word) : (s.setArgB v).outLen = s.outLen := rfl
@[simp] theorem State.setArgB_res (v : Word) : (s.setArgB v).res = s.res := rfl
@[simp] theorem State.setArgB_res2 (v : Word) : (s.setArgB v).res2 = s.res2 := rfl
@[simp] theorem State.setArgB_err (v : Word) : (s.setArgB v).err = s.err := rfl
@[simp] theorem State.setArgB_errArg (v : Word) : (s.setArgB v).errArg = s.errArg := rfl
@[simp] theorem State.setArgB_errSticky (v : Word) : (s.setArgB v).errSticky = s.errSticky := rfl
@[simp] theorem State.setArgB_acc (v : Word) : (s.setArgB v).acc = s.acc := rfl
@[simp] theorem State.setArgB_accN (v : Word) : (s.setArgB v).accN = s.accN := rfl
@[simp] theorem State.setArgB_unescPend (v : Word) : (s.setArgB v).unescPend = s.unescPend := rfl
@[simp] theorem State.setArgB_rsp (v : Word) : (s.setArgB v).rsp = s.rsp := rfl
@[simp] theorem State.setArgB_flags (v : Word) : (s.setArgB v).flags = s.flags := rfl
@[simp] theorem State.setArgB_cond (v : Word) : (s.setArgB v).cond = s.cond := rfl
@[simp] theorem State.setArgB_condN (v : Word) : (s.setArgB v).condN = s.condN := rfl
@[simp] theorem State.setArgB_pending (v : Word) : (s.setArgB v).pending = s.pending := rfl
@[simp] theorem State.setArgB_lastRead (v : Word) : (s.setArgB v).lastRead = s.lastRead := rfl
@[simp] theorem State.setArgB_epoch (v : Word) : (s.setArgB v).epoch = s.epoch := rfl

/-! ### setArgC -/

@[simp] theorem State.setArgC_cfg (v : Word) : (s.setArgC v).cfg = s.cfg := rfl
@[simp] theorem State.setArgC_cmdLast (v : Word) : (s.setArgC v).cmdLast = s.cmdLast := rfl
@[simp] theorem State.setArgC_argA (v : Word) : (s.setArgC v).argA = s.argA := rfl
@[simp] theorem State.setArgC_argB (v : Word) : (s.setArgC v).argB = s.argB := rfl
@[simp] theorem State.setArgC_argC (v : Word) : (s.setArgC v).argC = v := rfl
@[simp] theorem State.setArgC_inBuf (v : Word) : (s.setArgC v).inBuf = s.inBuf := rfl
@[simp] theorem State.setArgC_inLen (v : Word) : (s.setArgC v).inLen = s.inLen := rfl
@[simp] theorem State.setArgC_out (v : Word) : (s.setArgC v).out = s.out := rfl
@[simp] theorem State.setArgC_outLen (v : Word) : (s.setArgC v).outLen = s.outLen := rfl
@[simp] theorem State.setArgC_res (v : Word) : (s.setArgC v).res = s.res := rfl
@[simp] theorem State.setArgC_res2 (v : Word) : (s.setArgC v).res2 = s.res2 := rfl
@[simp] theorem State.setArgC_err (v : Word) : (s.setArgC v).err = s.err := rfl
@[simp] theorem State.setArgC_errArg (v : Word) : (s.setArgC v).errArg = s.errArg := rfl
@[simp] theorem State.setArgC_errSticky (v : Word) : (s.setArgC v).errSticky = s.errSticky := rfl
@[simp] theorem State.setArgC_acc (v : Word) : (s.setArgC v).acc = s.acc := rfl
@[simp] theorem State.setArgC_accN (v : Word) : (s.setArgC v).accN = s.accN := rfl
@[simp] theorem State.setArgC_unescPend (v : Word) : (s.setArgC v).unescPend = s.unescPend := rfl
@[simp] theorem State.setArgC_rsp (v : Word) : (s.setArgC v).rsp = s.rsp := rfl
@[simp] theorem State.setArgC_flags (v : Word) : (s.setArgC v).flags = s.flags := rfl
@[simp] theorem State.setArgC_cond (v : Word) : (s.setArgC v).cond = s.cond := rfl
@[simp] theorem State.setArgC_condN (v : Word) : (s.setArgC v).condN = s.condN := rfl
@[simp] theorem State.setArgC_pending (v : Word) : (s.setArgC v).pending = s.pending := rfl
@[simp] theorem State.setArgC_lastRead (v : Word) : (s.setArgC v).lastRead = s.lastRead := rfl
@[simp] theorem State.setArgC_epoch (v : Word) : (s.setArgC v).epoch = s.epoch := rfl

/-! ### setInLen -/

@[simp] theorem State.setInLen_cfg (v : Word) : (s.setInLen v).cfg = s.cfg := rfl
@[simp] theorem State.setInLen_cmdLast (v : Word) : (s.setInLen v).cmdLast = s.cmdLast := rfl
@[simp] theorem State.setInLen_argA (v : Word) : (s.setInLen v).argA = s.argA := rfl
@[simp] theorem State.setInLen_argB (v : Word) : (s.setInLen v).argB = s.argB := rfl
@[simp] theorem State.setInLen_argC (v : Word) : (s.setInLen v).argC = s.argC := rfl
@[simp] theorem State.setInLen_inBuf (v : Word) : (s.setInLen v).inBuf = s.inBuf := rfl
@[simp] theorem State.setInLen_inLen (v : Word) :
    (s.setInLen v).inLen = BitVec.ofNat 9 (min v.toNat s.cfg.inMax) := rfl
@[simp] theorem State.setInLen_out (v : Word) : (s.setInLen v).out = s.out := rfl
@[simp] theorem State.setInLen_outLen (v : Word) : (s.setInLen v).outLen = s.outLen := rfl
@[simp] theorem State.setInLen_res (v : Word) : (s.setInLen v).res = s.res := rfl
@[simp] theorem State.setInLen_res2 (v : Word) : (s.setInLen v).res2 = s.res2 := rfl
@[simp] theorem State.setInLen_err (v : Word) : (s.setInLen v).err = s.err := rfl
@[simp] theorem State.setInLen_errArg (v : Word) : (s.setInLen v).errArg = s.errArg := rfl
@[simp] theorem State.setInLen_errSticky (v : Word) : (s.setInLen v).errSticky = s.errSticky := rfl
@[simp] theorem State.setInLen_acc (v : Word) : (s.setInLen v).acc = s.acc := rfl
@[simp] theorem State.setInLen_accN (v : Word) : (s.setInLen v).accN = s.accN := rfl
@[simp] theorem State.setInLen_unescPend (v : Word) : (s.setInLen v).unescPend = s.unescPend := rfl
@[simp] theorem State.setInLen_rsp (v : Word) : (s.setInLen v).rsp = s.rsp := rfl
@[simp] theorem State.setInLen_flags (v : Word) : (s.setInLen v).flags = s.flags := rfl
@[simp] theorem State.setInLen_cond (v : Word) : (s.setInLen v).cond = s.cond := rfl
@[simp] theorem State.setInLen_condN (v : Word) : (s.setInLen v).condN = s.condN := rfl
@[simp] theorem State.setInLen_pending (v : Word) : (s.setInLen v).pending = s.pending := rfl
@[simp] theorem State.setInLen_lastRead (v : Word) : (s.setInLen v).lastRead = s.lastRead := rfl
@[simp] theorem State.setInLen_epoch (v : Word) : (s.setInLen v).epoch = s.epoch := rfl

/-! ### The updates that may do nothing -/

@[simp] theorem State.writeIn_cfg (i : Nat) (b : Byte) : (s.writeIn i b).cfg = s.cfg := by
  unfold State.writeIn; split <;> rfl
@[simp] theorem State.writeIn_cmdLast (i : Nat) (b : Byte) : (s.writeIn i b).cmdLast = s.cmdLast := by
  unfold State.writeIn; split <;> rfl
@[simp] theorem State.writeIn_argA (i : Nat) (b : Byte) : (s.writeIn i b).argA = s.argA := by
  unfold State.writeIn; split <;> rfl
@[simp] theorem State.writeIn_argB (i : Nat) (b : Byte) : (s.writeIn i b).argB = s.argB := by
  unfold State.writeIn; split <;> rfl
@[simp] theorem State.writeIn_argC (i : Nat) (b : Byte) : (s.writeIn i b).argC = s.argC := by
  unfold State.writeIn; split <;> rfl
@[simp] theorem State.writeIn_inLen (i : Nat) (b : Byte) : (s.writeIn i b).inLen = s.inLen := by
  unfold State.writeIn; split <;> rfl
@[simp] theorem State.writeIn_out (i : Nat) (b : Byte) : (s.writeIn i b).out = s.out := by
  unfold State.writeIn; split <;> rfl
@[simp] theorem State.writeIn_outLen (i : Nat) (b : Byte) : (s.writeIn i b).outLen = s.outLen := by
  unfold State.writeIn; split <;> rfl
@[simp] theorem State.writeIn_res (i : Nat) (b : Byte) : (s.writeIn i b).res = s.res := by
  unfold State.writeIn; split <;> rfl
@[simp] theorem State.writeIn_res2 (i : Nat) (b : Byte) : (s.writeIn i b).res2 = s.res2 := by
  unfold State.writeIn; split <;> rfl
@[simp] theorem State.writeIn_err (i : Nat) (b : Byte) : (s.writeIn i b).err = s.err := by
  unfold State.writeIn; split <;> rfl
@[simp] theorem State.writeIn_errArg (i : Nat) (b : Byte) : (s.writeIn i b).errArg = s.errArg := by
  unfold State.writeIn; split <;> rfl
@[simp] theorem State.writeIn_errSticky (i : Nat) (b : Byte) : (s.writeIn i b).errSticky = s.errSticky := by
  unfold State.writeIn; split <;> rfl
@[simp] theorem State.writeIn_acc (i : Nat) (b : Byte) : (s.writeIn i b).acc = s.acc := by
  unfold State.writeIn; split <;> rfl
@[simp] theorem State.writeIn_accN (i : Nat) (b : Byte) : (s.writeIn i b).accN = s.accN := by
  unfold State.writeIn; split <;> rfl
@[simp] theorem State.writeIn_unescPend (i : Nat) (b : Byte) : (s.writeIn i b).unescPend = s.unescPend := by
  unfold State.writeIn; split <;> rfl
@[simp] theorem State.writeIn_rsp (i : Nat) (b : Byte) : (s.writeIn i b).rsp = s.rsp := by
  unfold State.writeIn; split <;> rfl
@[simp] theorem State.writeIn_flags (i : Nat) (b : Byte) : (s.writeIn i b).flags = s.flags := by
  unfold State.writeIn; split <;> rfl
@[simp] theorem State.writeIn_cond (i : Nat) (b : Byte) : (s.writeIn i b).cond = s.cond := by
  unfold State.writeIn; split <;> rfl
@[simp] theorem State.writeIn_condN (i : Nat) (b : Byte) : (s.writeIn i b).condN = s.condN := by
  unfold State.writeIn; split <;> rfl
@[simp] theorem State.writeIn_pending (i : Nat) (b : Byte) : (s.writeIn i b).pending = s.pending := by
  unfold State.writeIn; split <;> rfl
@[simp] theorem State.writeIn_lastRead (i : Nat) (b : Byte) : (s.writeIn i b).lastRead = s.lastRead := by
  unfold State.writeIn; split <;> rfl
@[simp] theorem State.writeIn_epoch (i : Nat) (b : Byte) : (s.writeIn i b).epoch = s.epoch := by
  unfold State.writeIn; split <;> rfl
@[simp] theorem State.writeIn_inBuf (i : Nat) (b : Byte) :
    (s.writeIn i b).inBuf = if i < s.cfg.inMax then s.inBuf.write i b else s.inBuf := by
  unfold State.writeIn; split <;> rfl
@[simp] theorem State.writeInWord_cfg (k : Nat) (v : Word) : (s.writeInWord k v).cfg = s.cfg := by
  simp [State.writeInWord]
@[simp] theorem State.writeInWord_cmdLast (k : Nat) (v : Word) : (s.writeInWord k v).cmdLast = s.cmdLast := by
  simp [State.writeInWord]
@[simp] theorem State.writeInWord_argA (k : Nat) (v : Word) : (s.writeInWord k v).argA = s.argA := by
  simp [State.writeInWord]
@[simp] theorem State.writeInWord_argB (k : Nat) (v : Word) : (s.writeInWord k v).argB = s.argB := by
  simp [State.writeInWord]
@[simp] theorem State.writeInWord_argC (k : Nat) (v : Word) : (s.writeInWord k v).argC = s.argC := by
  simp [State.writeInWord]
@[simp] theorem State.writeInWord_inLen (k : Nat) (v : Word) : (s.writeInWord k v).inLen = s.inLen := by
  simp [State.writeInWord]
@[simp] theorem State.writeInWord_out (k : Nat) (v : Word) : (s.writeInWord k v).out = s.out := by
  simp [State.writeInWord]
@[simp] theorem State.writeInWord_outLen (k : Nat) (v : Word) : (s.writeInWord k v).outLen = s.outLen := by
  simp [State.writeInWord]
@[simp] theorem State.writeInWord_res (k : Nat) (v : Word) : (s.writeInWord k v).res = s.res := by
  simp [State.writeInWord]
@[simp] theorem State.writeInWord_res2 (k : Nat) (v : Word) : (s.writeInWord k v).res2 = s.res2 := by
  simp [State.writeInWord]
@[simp] theorem State.writeInWord_err (k : Nat) (v : Word) : (s.writeInWord k v).err = s.err := by
  simp [State.writeInWord]
@[simp] theorem State.writeInWord_errArg (k : Nat) (v : Word) : (s.writeInWord k v).errArg = s.errArg := by
  simp [State.writeInWord]
@[simp] theorem State.writeInWord_errSticky (k : Nat) (v : Word) : (s.writeInWord k v).errSticky = s.errSticky := by
  simp [State.writeInWord]
@[simp] theorem State.writeInWord_acc (k : Nat) (v : Word) : (s.writeInWord k v).acc = s.acc := by
  simp [State.writeInWord]
@[simp] theorem State.writeInWord_accN (k : Nat) (v : Word) : (s.writeInWord k v).accN = s.accN := by
  simp [State.writeInWord]
@[simp] theorem State.writeInWord_unescPend (k : Nat) (v : Word) : (s.writeInWord k v).unescPend = s.unescPend := by
  simp [State.writeInWord]
@[simp] theorem State.writeInWord_rsp (k : Nat) (v : Word) : (s.writeInWord k v).rsp = s.rsp := by
  simp [State.writeInWord]
@[simp] theorem State.writeInWord_flags (k : Nat) (v : Word) : (s.writeInWord k v).flags = s.flags := by
  simp [State.writeInWord]
@[simp] theorem State.writeInWord_cond (k : Nat) (v : Word) : (s.writeInWord k v).cond = s.cond := by
  simp [State.writeInWord]
@[simp] theorem State.writeInWord_condN (k : Nat) (v : Word) : (s.writeInWord k v).condN = s.condN := by
  simp [State.writeInWord]
@[simp] theorem State.writeInWord_pending (k : Nat) (v : Word) : (s.writeInWord k v).pending = s.pending := by
  simp [State.writeInWord]
@[simp] theorem State.writeInWord_lastRead (k : Nat) (v : Word) : (s.writeInWord k v).lastRead = s.lastRead := by
  simp [State.writeInWord]
@[simp] theorem State.writeInWord_epoch (k : Nat) (v : Word) : (s.writeInWord k v).epoch = s.epoch := by
  simp [State.writeInWord]

@[simp] theorem State.writeStatus_cfg (v : Word) : (s.writeStatus v).cfg = s.cfg := by
  unfold State.writeStatus; split <;> rfl
@[simp] theorem State.writeStatus_cmdLast (v : Word) : (s.writeStatus v).cmdLast = s.cmdLast := by
  unfold State.writeStatus; split <;> rfl
@[simp] theorem State.writeStatus_argA (v : Word) : (s.writeStatus v).argA = s.argA := by
  unfold State.writeStatus; split <;> rfl
@[simp] theorem State.writeStatus_argB (v : Word) : (s.writeStatus v).argB = s.argB := by
  unfold State.writeStatus; split <;> rfl
@[simp] theorem State.writeStatus_argC (v : Word) : (s.writeStatus v).argC = s.argC := by
  unfold State.writeStatus; split <;> rfl
@[simp] theorem State.writeStatus_inBuf (v : Word) : (s.writeStatus v).inBuf = s.inBuf := by
  unfold State.writeStatus; split <;> rfl
@[simp] theorem State.writeStatus_inLen (v : Word) : (s.writeStatus v).inLen = s.inLen := by
  unfold State.writeStatus; split <;> rfl
@[simp] theorem State.writeStatus_out (v : Word) : (s.writeStatus v).out = s.out := by
  unfold State.writeStatus; split <;> rfl
@[simp] theorem State.writeStatus_outLen (v : Word) : (s.writeStatus v).outLen = s.outLen := by
  unfold State.writeStatus; split <;> rfl
@[simp] theorem State.writeStatus_res (v : Word) : (s.writeStatus v).res = s.res := by
  unfold State.writeStatus; split <;> rfl
@[simp] theorem State.writeStatus_res2 (v : Word) : (s.writeStatus v).res2 = s.res2 := by
  unfold State.writeStatus; split <;> rfl
@[simp] theorem State.writeStatus_err (v : Word) : (s.writeStatus v).err = s.err := by
  unfold State.writeStatus; split <;> rfl
@[simp] theorem State.writeStatus_errArg (v : Word) : (s.writeStatus v).errArg = s.errArg := by
  unfold State.writeStatus; split <;> rfl
@[simp] theorem State.writeStatus_acc (v : Word) : (s.writeStatus v).acc = s.acc := by
  unfold State.writeStatus; split <;> rfl
@[simp] theorem State.writeStatus_accN (v : Word) : (s.writeStatus v).accN = s.accN := by
  unfold State.writeStatus; split <;> rfl
@[simp] theorem State.writeStatus_unescPend (v : Word) : (s.writeStatus v).unescPend = s.unescPend := by
  unfold State.writeStatus; split <;> rfl
@[simp] theorem State.writeStatus_rsp (v : Word) : (s.writeStatus v).rsp = s.rsp := by
  unfold State.writeStatus; split <;> rfl
@[simp] theorem State.writeStatus_flags (v : Word) : (s.writeStatus v).flags = s.flags := by
  unfold State.writeStatus; split <;> rfl
@[simp] theorem State.writeStatus_cond (v : Word) : (s.writeStatus v).cond = s.cond := by
  unfold State.writeStatus; split <;> rfl
@[simp] theorem State.writeStatus_condN (v : Word) : (s.writeStatus v).condN = s.condN := by
  unfold State.writeStatus; split <;> rfl
@[simp] theorem State.writeStatus_pending (v : Word) : (s.writeStatus v).pending = s.pending := by
  unfold State.writeStatus; split <;> rfl
@[simp] theorem State.writeStatus_lastRead (v : Word) : (s.writeStatus v).lastRead = s.lastRead := by
  unfold State.writeStatus; split <;> rfl
@[simp] theorem State.writeStatus_epoch (v : Word) : (s.writeStatus v).epoch = s.epoch := by
  unfold State.writeStatus; split <;> rfl
@[simp] theorem State.writeStatus_errSticky (v : Word) :
    (s.writeStatus v).errSticky = if v.getLsbD 8 then false else s.errSticky := by
  unfold State.writeStatus; split <;> rfl

end Sys2Proof.Machine
end

