-- ==== Sys2Proof/Laws/Memory.lean ====
section
/-!
SUPPORT. The laws of the byte memory IN: a read after a write, and the canonical form.
-/

namespace Sys2Proof.Machine

/-- A read at the address just written gives the byte written. -/
@[simp] theorem Memory.read_write_same (m : Memory) (a : Nat) (b : Byte) :
    (m.write a b).read a = some b := by
  induction m with
  | nil => simp [Memory.write, Memory.read]
  | cons x m ih =>
    obtain ⟨k, c⟩ := x
    unfold Memory.write
    split
    · simp [Memory.read]
    · split
      · simp [Memory.read]
      · rename_i h
        simp [Memory.read, h, ih]

/-- A read at any other address gives what it gave before the write. -/
theorem Memory.read_write_other (m : Memory) {a x : Nat} (b : Byte) (h : x ≠ a) :
    (m.write a b).read x = m.read x := by
  induction m with
  | nil => simp [Memory.write, Memory.read, h]
  | cons y m ih =>
    obtain ⟨k, c⟩ := y
    unfold Memory.write
    split
    · simp [Memory.read, h]
    · split
      · rename_i hk
        subst hk
        simp [Memory.read, h]
      · simp [Memory.read, ih]

/-- Both cases of a read after a write. -/
theorem Memory.read_write (m : Memory) (a x : Nat) (b : Byte) :
    (m.write a b).read x = if x = a then some b else m.read x := by
  split
  · rename_i h
    subst h
    simp
  · rename_i h
    exact Memory.read_write_other m b h

/-- Every entry after a write is the one written or one of before. -/
theorem Memory.mem_write {m : Memory} {a : Nat} {b : Byte} {x : Host.Cell}
    (h : x ∈ m.write a b) : x = (a, b) ∨ x ∈ m := by
  induction m with
  | nil => simpa [Memory.write] using h
  | cons y m ih =>
    obtain ⟨k, c⟩ := y
    unfold Memory.write at h
    split at h
    · simpa using h
    · split at h
      · rcases List.mem_cons.1 h with h | h
        · exact .inl h
        · exact .inr (List.mem_cons_of_mem _ h)
      · rcases List.mem_cons.1 h with h | h
        · exact .inr (h ▸ List.mem_cons_self)
        · rcases ih h with h | h
          · exact .inl h
          · exact .inr (List.mem_cons_of_mem _ h)

/-- A write keeps the canonical form. -/
theorem Memory.wf_write {m : Memory} (a : Nat) (b : Byte) (h : m.wf) : (m.write a b).wf := by
  induction m with
  | nil => simp [Memory.write, Memory.wf]
  | cons y m ih =>
    obtain ⟨k, c⟩ := y
    obtain ⟨hk, hm⟩ := List.pairwise_cons.1 h
    unfold Memory.write
    split
    · rename_i hlt
      refine List.pairwise_cons.2 ⟨fun x hx => ?_, h⟩
      rcases List.mem_cons.1 hx with rfl | hx
      · exact hlt
      · exact Nat.lt_trans hlt (hk x hx)
    · split
      · rename_i heq
        subst heq
        exact List.pairwise_cons.2 ⟨hk, hm⟩
      · refine List.pairwise_cons.2 ⟨fun x hx => ?_, ih hm⟩
        rcases Memory.mem_write hx with rfl | hx
        · show k < a
          omega
        · exact hk x hx

/-- A write below a bound keeps every address below it. -/
theorem Memory.bounded_write {m : Memory} {n a : Nat} (b : Byte) (ha : a < n)
    (h : ∀ x ∈ m, x.1 < n) : ∀ x ∈ m.write a b, x.1 < n := by
  intro x hx
  rcases Memory.mem_write hx with rfl | hx
  · exact ha
  · exact h x hx

/-- Memory after reset is in its canonical form. -/
theorem Memory.wf_reset (c : Config) : (State.resetWith c).inBuf.wf := List.Pairwise.nil

/-- A host write to INWk keeps the canonical form. -/
theorem State.wf_writeIn (s : State) (i : Nat) (b : Byte) (h : s.inBuf.wf) :
    (s.writeIn i b).inBuf.wf := by
  rw [State.writeIn_inBuf]
  split
  · exact Memory.wf_write i b h
  · exact h

/-- A host write to INWk keeps every address below IN_MAX. -/
theorem State.bounded_writeIn (s : State) (i : Nat) (b : Byte)
    (h : ∀ x ∈ s.inBuf, x.1 < s.cfg.inMax) : ∀ x ∈ (s.writeIn i b).inBuf, x.1 < s.cfg.inMax := by
  rw [State.writeIn_inBuf]
  split
  · rename_i hi
    exact Memory.bounded_write b hi h
  · exact h

/-- A host write to INWk keeps the canonical form. -/
theorem State.wf_writeInWord (s : State) (k : Nat) (v : Word) (h : s.inBuf.wf) :
    (s.writeInWord k v).inBuf.wf :=
  State.wf_writeIn _ _ _ (State.wf_writeIn _ _ _ (State.wf_writeIn _ _ _ (State.wf_writeIn _ _ _ h)))

/-- A host write to INWk keeps every address below IN_MAX. -/
theorem State.bounded_writeInWord (s : State) (k : Nat) (v : Word)
    (h : ∀ x ∈ s.inBuf, x.1 < s.cfg.inMax) :
    ∀ x ∈ (s.writeInWord k v).inBuf, x.1 < s.cfg.inMax := by
  have step (t : State) (ht : t.cfg = s.cfg) (i : Nat) (b : Byte)
      (h : ∀ x ∈ t.inBuf, x.1 < s.cfg.inMax) : ∀ x ∈ (t.writeIn i b).inBuf, x.1 < s.cfg.inMax := by
    rw [← ht] at h ⊢
    exact State.bounded_writeIn t i b h
  exact step _ (by simp) _ _ (step _ (by simp) _ _ (step _ (by simp) _ _ (step _ rfl _ _ h)))

/-- What a host write to INWk does to every byte of IN: the four lanes below IN_MAX are written, every
other byte stays. -/
theorem State.read_writeInWord (s : State) (k : Nat) (v : Word) (x : Nat) :
    (s.writeInWord k v).inBuf.read x =
      if x < s.cfg.inMax ∧ 4 * k ≤ x ∧ x < 4 * k + 4 then some (laneByte v (x - 4 * k))
      else s.inBuf.read x := by
  have one (t : State) (i : Nat) (b : Byte) :
      (t.writeIn i b).inBuf.read x =
        if i < t.cfg.inMax ∧ x = i then some b else t.inBuf.read x := by
    rw [State.writeIn_inBuf]
    by_cases hi : i < t.cfg.inMax <;> simp [hi, Memory.read_write]
  simp only [State.writeInWord, one, State.writeIn_cfg]
  by_cases h0 : x = 4 * k
  · subst h0
    by_cases hx : 4 * k < s.cfg.inMax <;> simp [hx]
  by_cases h1 : x = 4 * k + 1
  · subst h1
    by_cases hx : 4 * k + 1 < s.cfg.inMax <;> simp [hx]
  by_cases h2 : x = 4 * k + 2
  · subst h2
    by_cases hx : 4 * k + 2 < s.cfg.inMax <;> simp [hx]
  by_cases h3 : x = 4 * k + 3
  · subst h3
    by_cases hx : 4 * k + 3 < s.cfg.inMax <;> simp [hx]
  have : ¬(x < s.cfg.inMax ∧ 4 * k ≤ x ∧ x < 4 * k + 4) := by omega
  simp [h0, h1, h2, h3, this]

end Sys2Proof.Machine
end

