-- ==== Sys2Proof/Laws/Ops.lean ====
section
/-!
SUPPORT. One lemma for each shared operation of Machine/Ops.lean, Machine/Operands.lean and
Machine/Flags.lean, to be cited instead of unfolding it.
-/

namespace Sys2Proof.Machine

/-! ### Escape -/

/-- R16: a control byte becomes an escape pair. -/
theorem esc_of_mem {c : Config} {b : Byte} (h : b ∈ c.ctrl) :
    esc c b = [c.escIntro, b ^^^ xorMask] := if_pos h

/-- R16: any other byte stays. -/
theorem esc_of_not_mem {c : Config} {b : Byte} (h : b ∉ c.ctrl) : esc c b = [b] := if_neg h

/-- R401: the length law of the escape. -/
theorem esc_length (c : Config) (b : Byte) : (esc c b).length = if b ∈ c.ctrl then 2 else 1 := by
  unfold esc
  split <;> rfl

/-- An escaped byte is one or two wire bytes. -/
theorem esc_length_bounds (c : Config) (b : Byte) : 1 ≤ (esc c b).length ∧ (esc c b).length ≤ 2 := by
  rw [esc_length]
  split <;> omega

/-- An escaped payload is at least as long as the payload and at most twice as long. -/
theorem escAll_length_bounds (c : Config) (bs : List Byte) :
    bs.length ≤ (escAll c bs).length ∧ (escAll c bs).length ≤ 2 * bs.length := by
  induction bs with
  | nil => simp [escAll]
  | cons b bs ih =>
    have := esc_length_bounds c b
    simp only [escAll, List.flatMap_cons, List.length_append, List.length_cons] at ih ⊢
    omega

/-- R307: the checksum is two wire bytes when ESC_CHK is set and it is a control byte, else one. -/
theorem lrcBytes_length (c : Config) (b : Byte) :
    (lrcBytes c b).length = if c.escChk = true ∧ b ∈ c.ctrl then 2 else 1 := by
  unfold lrcBytes
  cases c.escChk <;> simp [esc_length]

/-- R307: the length of a frame from its payload and its checksum. -/
theorem frameBytes_length_bounds (c : Config) (cmd : Byte) (p : List Byte) :
    (if c.escChk = true ∧ frameLrc cmd p ∈ c.ctrl then 5 else 4) + p.length ≤
        (frameBytes c cmd p).length ∧
      (frameBytes c cmd p).length ≤
        (if c.escChk = true ∧ frameLrc cmd p ∈ c.ctrl then 5 else 4) + 2 * p.length := by
  have h1 := escAll_length_bounds c p
  have h2 := lrcBytes_length c (frameLrc cmd p)
  simp only [frameBytes, List.length_append, List.length_cons, List.length_nil]
  rw [h2]
  split <;> omega

/-! ### Reading the wire -/

/-- R308: a plain byte read from the wire. -/
theorem takeLogical_plain {c : Config} {x : Byte} (h : x ≠ c.escIntro) (rest : List Byte) :
    takeLogical c (x :: rest) = some (x, rest) := by
  simp [takeLogical, h]

/-- R308: an escape pair read from the wire. -/
theorem takeLogical_pair (c : Config) (y : Byte) (rest : List Byte) :
    takeLogical c (c.escIntro :: y :: rest) = some (y ^^^ xorMask, rest) := by
  simp [takeLogical]

/-- An introducer at the end of the wire gives no byte. -/
theorem takeLogical_alone (c : Config) : takeLogical c [c.escIntro] = none := by
  simp [takeLogical]

/-- What is read from the front of the wire is a plain byte or an escape pair. -/
theorem takeLogical_cases {c : Config} {wire rest : List Byte} {b : Byte}
    (h : takeLogical c wire = some (b, rest)) :
    (b ≠ c.escIntro ∧ wire = b :: rest) ∨
      ∃ y, b = y ^^^ xorMask ∧ wire = c.escIntro :: y :: rest := by
  match wire with
  | [] => simp [takeLogical] at h
  | x :: tail =>
    by_cases hx : x = c.escIntro
    · subst hx
      match tail with
      | [] => simp [takeLogical_alone] at h
      | y :: tail =>
        rw [takeLogical_pair] at h
        simp only [Option.some.injEq, Prod.mk.injEq] at h
        exact .inr ⟨y, h.1.symm, by rw [h.2]⟩
    · rw [takeLogical_plain hx] at h
      simp only [Option.some.injEq, Prod.mk.injEq] at h
      obtain ⟨rfl, rfl⟩ := h
      exact .inl ⟨hx, rfl⟩

/-- The wire gives no byte exactly when it is empty or a lone introducer. -/
theorem takeLogical_eq_none {c : Config} {wire : List Byte} :
    takeLogical c wire = none ↔ wire = [] ∨ wire = [c.escIntro] := by
  match wire with
  | [] => simp [takeLogical]
  | [x] => by_cases hx : x = c.escIntro <;> simp [takeLogical, hx]
  | x :: y :: rest => by_cases hx : x = c.escIntro <;> simp [takeLogical, hx]

/-- R308: under W1 the decoder inverts the escape of every byte. -/
theorem takeLogical_esc {c : Config} (h : c.w1 = true) (b : Byte) (rest : List Byte) :
    takeLogical c (esc c b ++ rest) = some (b, rest) := by
  have hintro : c.escIntro ∈ c.ctrl := of_decide_eq_true h
  by_cases hb : b ∈ c.ctrl
  · rw [esc_of_mem hb]
    simp [takeLogical]
  · rw [esc_of_not_mem hb]
    have : b ≠ c.escIntro := fun e => hb (e ▸ hintro)
    simpa using takeLogical_plain this rest

/-! ### Checksum -/

/-- The XOR folded onto a byte is that byte XORed with the XOR of the sequence. -/
theorem xorFrom_eq (c : Byte) (bs : List Byte) :
    xorFrom c bs = c ^^^ bs.foldr (· ^^^ ·) 0#8 := by
  induction bs generalizing c with
  | nil => simp [xorFrom]
  | cons b bs ih =>
    have := ih (c ^^^ b)
    simp only [xorFrom, List.foldl_cons, List.foldr_cons] at this ⊢
    rw [this, BitVec.xor_assoc]

/-- R470: the XOR of a sequence does not depend on its order. -/
theorem xorAll_perm {bs bs' : List Byte} (h : bs.Perm bs') :
    bs.foldr (· ^^^ ·) 0#8 = bs'.foldr (· ^^^ ·) 0#8 := by
  induction h with
  | nil => rfl
  | cons x _ ih => simp [ih]
  | swap x y l => simp [← BitVec.xor_assoc, BitVec.xor_comm x y]
  | trans _ _ ih1 ih2 => exact ih1.trans ih2

/-! ### Operands -/

/-- The 16-bit pattern of a 32-bit operand is its low half. -/
theorem pattern16_s32 (w : Word) : pattern16 (s32 w) = w.extractLsb' 0 16 := by
  unfold pattern16 s32
  apply BitVec.eq_of_toNat_eq
  rw [BitVec.toNat_ofInt, BitVec.extractLsb'_toNat, BitVec.toInt_eq_toNat_cond]
  have := w.isLt
  split <;> simp <;> omega

/-- R17: the two bytes of an operand's field are its low two bytes. -/
theorem le16_s32 (w : Word) : le16 (s32 w) = [w.extractLsb' 0 8, w.extractLsb' 8 8] := by
  simp only [le16, pattern16_s32]
  congr 1
  · apply BitVec.eq_of_getLsbD_eq
    intro i hi
    simp [hi]
  · congr 1
    apply BitVec.eq_of_getLsbD_eq
    intro i hi
    simp [hi]

/-- R13: what the int16 check accepts. -/
theorem inInt16_iff (v : Int) : inInt16 v = true ↔ -32768 ≤ v ∧ v ≤ 32767 := by
  simp [inInt16]

/-- R13: what the int16 check turns away. -/
theorem not_inInt16_iff (v : Int) : inInt16 v = false ↔ v < -32768 ∨ 32767 < v := by
  rw [← Bool.not_eq_true, inInt16_iff]
  omega

/-- R512: what a symmetric range check accepts. -/
theorem within_iff (limit v : Int) : within limit v = true ↔ -limit ≤ v ∧ v ≤ limit := by
  simp [within]

/-- R512: what a symmetric range check turns away. -/
theorem not_within_iff (limit v : Int) : within limit v = false ↔ v < -limit ∨ limit < v := by
  rw [← Bool.not_eq_true, within_iff]
  omega

/-- R303: a byte operand is the register cut to eight bits. -/
theorem byteOperand_eq (w : Word) : byteOperand w = w.setWidth 8 := by
  apply BitVec.eq_of_getLsbD_eq
  intro i hi
  simp [byteOperand, hi]

/-- A byte put into a register reads back as the byte operand. -/
@[simp] theorem byteOperand_setWidth (b : Byte) : byteOperand (b.setWidth 32) = b := by
  rw [byteOperand_eq]
  simp

/-- R303: the flags check looks at bits 31:4. -/
theorem flagsLegal_iff (w : Word) : flagsLegal w = true ↔ w >>> 4 = 0 := by
  simp only [flagsLegal, decide_eq_true_eq]
  constructor <;> intro h <;> apply BitVec.eq_of_getLsbD_eq <;> intro i hi
  · have := congrArg (fun v => v.getLsbD i) h
    by_cases hi' : i < 28
    · simpa [hi'] using this
    · simp only [BitVec.getLsbD_ushiftRight]
      rw [BitVec.getLsbD_of_ge w _ (by omega)]
      simp
  · have := congrArg (fun v => v.getLsbD i) h
    simpa [hi] using this

/-- The byte of IN a state finds depends on the bytes written and on the epoch alone. -/
theorem State.inByte_congr {s t : State} (h1 : t.inBuf = s.inBuf) (h2 : t.epoch = s.epoch) (i : Nat) :
    t.inByte i = s.inByte i := by
  simp only [State.inByte, h1, h2]

/-- A byte of IN that the host wrote. -/
theorem State.inByte_written {s : State} {i : Nat} {b : Byte} (h : s.inBuf.read i = some b) :
    s.inByte i = b := by
  simp [State.inByte, h]

/-- A byte of IN that the host has not written since reset is free. -/
theorem State.inByte_unwritten {s : State} {i : Nat} (h : s.inBuf.read i = none) :
    s.inByte i = Config.freeInByte s.epoch i := by
  simp [State.inByte, h]

@[simp] theorem State.inSeq_length (s : State) : s.inSeq.length = s.inLen.toNat := by
  simp [State.inSeq]

/-- IN[0..IN_LEN) byte by byte. -/
theorem State.inSeq_getElem (s : State) (i : Nat) (h : i < s.inSeq.length) :
    s.inSeq[i] = s.inByte i := by
  simp [State.inSeq]

/-! ### Flags -/

/-- R620: a code is listed for a group exactly for a set bit of its byte. -/
theorem mem_groupCodes {g : Nat} {b x : Byte} :
    x ∈ groupCodes g b ↔ ∃ k, k < 8 ∧ b.getLsbD k = true ∧ condCode g k = x := by
  simp only [groupCodes, List.mem_filterMap, Option.ite_none_right_eq_some, Option.some.injEq]
  constructor
  · rintro ⟨k, hk, hb, rfl⟩
    refine ⟨k, ?_, hb, rfl⟩
    simp at hk
    omega
  · rintro ⟨k, hk, hb, rfl⟩
    refine ⟨k, ?_, hb, rfl⟩
    simp
    omega

/-- R620: a group has at most eight codes. -/
theorem groupCodes_length_le (g : Nat) (b : Byte) : (groupCodes g b).length ≤ 8 :=
  List.length_filterMap_le _ _

/-- R112: there are at most 24 codes. -/
theorem condCodes_length_le (p t g : Byte) : (condCodes p t g).length ≤ 24 := by
  have h0 := groupCodes_length_le 0 p
  have h1 := groupCodes_length_le 1 t
  have h2 := groupCodes_length_le 2 g
  simp only [condCodes, List.length_append]
  omega

/-- R109: PanStatus in FLAGS. -/
@[simp] theorem flagsOf_pan (p t g : Byte) : (flagsOf p t g).extractLsb' 0 8 = p := by
  apply BitVec.eq_of_getLsbD_eq
  intro i hi
  have h1 : i < 16 := by omega
  have h2 : i < 24 := by omega
  simp [flagsOf, hi, h1, h2]

/-- R109: TiltStatus in FLAGS. -/
@[simp] theorem flagsOf_tilt (p t g : Byte) : (flagsOf p t g).extractLsb' 8 8 = t := by
  apply BitVec.eq_of_getLsbD_eq
  intro i hi
  have h1 : 8 + i < 16 := by omega
  have h2 : 8 + i < 24 := by omega
  simp [flagsOf, hi, h1, h2]

/-- R109: GenStatus in FLAGS. -/
@[simp] theorem flagsOf_gen (p t g : Byte) : (flagsOf p t g).extractLsb' 16 8 = g := by
  apply BitVec.eq_of_getLsbD_eq
  intro i hi
  have h1 : ¬ 16 + i < 8 := by omega
  have h2 : 16 + i < 24 := by omega
  have h3 : t.getLsbD (16 + i - 8) = false := BitVec.getLsbD_of_ge _ _ (by omega)
  have h4 : p.getLsbD (16 + i) = false := BitVec.getLsbD_of_ge _ _ (by omega)
  simp [flagsOf, hi, h1, h2, h3, h4]

end Sys2Proof.Machine
end

