-- ==== Sys2Proof/Laws/Bus.lean ====
section
/-!
SUPPORT. The laws of the register window (Machine/Bus.lean): the classification of an access and the
lanes of a word.
-/

namespace Sys2Proof.Machine

/-- R202: an access at BASE + a word-aligned offset of the window is the access of that register. -/
theorem classifyAccess_register (c : Config) {off : Nat} (h1 : off < 0x200) (h2 : off % 4 = 0) :
    classifyAccess c 32 (c.base + off) = .register off := by
  have h3 : c.base + off - c.base = off := by omega
  have h4 : off < windowSize := h1
  simp [classifyAccess, h3, h4, h2]

/-- R202: a legal access is the access of the register at its offset. -/
theorem classifyAccess_legal {c : Config} {bits addr : Nat} (h : AccessLegal c bits addr) :
    classifyAccess c bits addr = .register (addr - c.base) := by
  obtain ⟨rfl, h1, h2, h3⟩ := h
  have h4 : ¬(addr < c.base ∨ c.base + windowSize ≤ addr) := by
    simp only [windowSize]
    omega
  simp [classifyAccess, h4, h3]

/-- R202: only a legal access is the access of a register, and of the one at its offset. -/
theorem classifyAccess_eq_register {c : Config} {bits addr off : Nat}
    (h : classifyAccess c bits addr = .register off) :
    AccessLegal c bits addr ∧ addr = c.base + off := by
  unfold classifyAccess at h
  split at h
  · cases h
  · rename_i hw
    split at h
    · cases h
    · rename_i hb
      split at h
      · cases h
      · rename_i hm
        simp only [windowSize] at hw
        simp only [AccessKind.register.injEq] at h
        exact ⟨⟨by omega, by omega, by omega, by omega⟩, by omega⟩

/-- The four bytes of a word are its lanes. -/
theorem laneByte_wordOfBytes (b0 b1 b2 b3 : Byte) :
    laneByte (wordOfBytes b0 b1 b2 b3) 0 = b0 ∧ laneByte (wordOfBytes b0 b1 b2 b3) 1 = b1 ∧
      laneByte (wordOfBytes b0 b1 b2 b3) 2 = b2 ∧ laneByte (wordOfBytes b0 b1 b2 b3) 3 = b3 := by
  refine ⟨?_, ?_, ?_, ?_⟩ <;>
  · apply BitVec.eq_of_getLsbD_eq
    intro i hi
    simp only [laneByte, wordOfBytes, BitVec.getLsbD_extractLsb', BitVec.getLsbD_or,
      BitVec.getLsbD_shiftLeft, BitVec.getLsbD_setWidth, hi]
    interval_cases i <;> simp

/-- R203: the lanes of a packed word. -/
theorem laneByte_packedWord (f : Nat → Byte) (k : Nat) {j : Nat} (h : j < 4) :
    laneByte (packedWord f k) j = f (4 * k + j) := by
  obtain ⟨h0, h1, h2, h3⟩ :=
    laneByte_wordOfBytes (f (4 * k)) (f (4 * k + 1)) (f (4 * k + 2)) (f (4 * k + 3))
  unfold packedWord
  interval_cases j
  · exact h0
  · exact h1
  · exact h2
  · exact h3

/-- R203: a lane of OUT below OUT_LEN. -/
theorem State.outLane_of_lt {s : State} {i : Nat} (h : i < s.out.length)
    (hn : s.out.length = s.outLen.toNat) : s.outLane i = s.out[i] := by
  simp [State.outLane, ← hn, h]

/-- R203, R111: a lane of OUT at or above OUT_LEN is free. -/
theorem State.outLane_free {s : State} {i : Nat} (h : s.outLen.toNat ≤ i) :
    s.outLane i = Config.freeOutByte s.epoch i := by
  simp [State.outLane, Nat.not_lt.2 h]

/-- R203: a lane of COND below COND_N. -/
theorem State.condLane_of_lt {s : State} {i : Nat} (h : i < s.cond.length)
    (hn : s.cond.length = s.condN.toNat) : s.condLane i = s.cond[i] := by
  simp [State.condLane, ← hn, h]

/-- R203, R112: a lane of COND at or above COND_N is free. -/
theorem State.condLane_free {s : State} {i : Nat} (h : s.condN.toNat ≤ i) :
    s.condLane i = Config.freeCondByte s.epoch i := by
  simp [State.condLane, Nat.not_lt.2 h]

theorem State.writeRegister_argA (s : State) (v : Word) : s.writeRegister 0x004 v = s.setArgA v := rfl

theorem State.writeRegister_argB (s : State) (v : Word) : s.writeRegister 0x008 v = s.setArgB v := rfl

theorem State.writeRegister_argC (s : State) (v : Word) : s.writeRegister 0x00C v = s.setArgC v := rfl

theorem State.writeRegister_inLen (s : State) (v : Word) : s.writeRegister 0x010 v = s.setInLen v := rfl

theorem State.writeRegister_status (s : State) (v : Word) : s.writeRegister 0x014 v = s.writeStatus v := rfl

/-- A host write to word `k` of IN. -/
theorem State.writeRegister_inWord (s : State) {k : Nat} (v : Word) (h : k < 64) :
    s.writeRegister (0x100 + 4 * k) v = s.writeInWord k v := by
  unfold State.writeRegister
  repeat rw [if_neg (by omega)]
  rw [if_pos (by omega), show (0x100 + 4 * k - 0x100) / 4 = k by omega]

/-- R201: what a write to a register other than CMD can do, named by its offset. -/
theorem State.writeRegister_cases (s : State) (off : Nat) (v : Word) :
    s.writeRegister off v = s.setArgA v ∨ s.writeRegister off v = s.setArgB v ∨
      s.writeRegister off v = s.setArgC v ∨ s.writeRegister off v = s.setInLen v ∨
      (off = 0x014 ∧ s.writeRegister off v = s.writeStatus v) ∨
      s.writeRegister off v = s.writeInWord ((off - 0x100) / 4) v ∨ s.writeRegister off v = s := by
  unfold State.writeRegister
  split
  · exact .inl rfl
  split
  · exact .inr (.inl rfl)
  split
  · exact .inr (.inr (.inl rfl))
  split
  · exact .inr (.inr (.inr (.inl rfl)))
  split
  · exact .inr (.inr (.inr (.inr (.inl ⟨by assumption, rfl⟩))))
  split
  · exact .inr (.inr (.inr (.inr (.inr (.inl rfl)))))
  · exact .inr (.inr (.inr (.inr (.inr (.inr rfl)))))

end Sys2Proof.Machine
end

