-- ==== Sys2Proof/Laws/Exec.lean ====
section
/-!
SUPPORT. What each operation answers, case by case, in terms of the named updates, to be cited instead of
unfolding a meaning.
-/

namespace Sys2Proof.Machine

variable {s : State}

/-- R400 -/
theorem exec_esc (s : State) : exec .esc s = .next (s.setOut (esc s.cfg (byteOperand s.argA))).done := rfl

/-- R402: the second byte of an escape pair. -/
theorem exec_unesc_pair (h : s.unescPend = true) :
    exec .unesc s =
      .next (((s.setRes ((byteOperand s.argA ^^^ xorMask).setWidth 32)).setRes2 1).setPend false).done := by
  simp [exec, execUnesc, h]

/-- R402: the first byte of an escape pair. -/
theorem exec_unesc_intro (h : s.unescPend = false) (hx : byteOperand s.argA = s.cfg.escIntro) :
    exec .unesc s = .next (((s.setRes 0).setRes2 0).setPend true).done := by
  simp [exec, execUnesc, h, hx]

/-- R402: a plain byte. -/
theorem exec_unesc_plain (h : s.unescPend = false) (hx : byteOperand s.argA ≠ s.cfg.escIntro) :
    exec .unesc s = .next ((s.setRes ((byteOperand s.argA).setWidth 32)).setRes2 1).done := by
  simp [exec, execUnesc, h, hx]

/-- R403 -/
theorem exec_unescRst (s : State) : exec .unescRst s = .next (s.setPend false).done := rfl

/-- R410: a value in int16. -/
theorem exec_enc16_ok (h : inInt16 (s32 s.argA) = true) :
    exec .enc16 s =
      .next ((s.setOut (escAll s.cfg (le16 (s32 s.argA)))).setRes
        ((pattern16 (s32 s.argA)).setWidth 32)).done := by
  simp [exec, execEnc16, h]

/-- R410: a value outside int16. -/
theorem exec_enc16_range (h : inInt16 (s32 s.argA) = false) :
    exec .enc16 s = .next (s.failBuild .rangeError .a) := by
  simp [exec, execEnc16, h]

/-- R420: a field read. -/
theorem exec_dec16_ok {v : Half} {n : Nat} (h : takeField s.cfg s.inSeq = some (v, n)) :
    exec .dec16 s = .next ((s.setRes (v.signExtend 32)).setRes2 (BitVec.ofNat 32 n)).done := by
  simp [exec, execDec16, h]

/-- R420: IN runs out. -/
theorem exec_dec16_short (h : takeField s.cfg s.inSeq = none) :
    exec .dec16 s = .next (((s.setRes 0).setRes2 0).raise .malformedResponse .none) := by
  simp [exec, execDec16, h]

/-- R460 -/
theorem exec_chkClr (s : State) : exec .chkClr s = .next (s.setAcc 0 false).done := rfl

/-- R461 -/
theorem exec_chkAdd (s : State) :
    exec .chkAdd s = .next (s.setAcc (s.acc ^^^ byteOperand s.argA) true).done := rfl

/-- R462: a byte was added. -/
theorem exec_chkRd_ok (h : s.accN = true) :
    exec .chkRd s = .next (s.setRes (s.acc.setWidth 32)).done := by
  simp [exec, execChkRd, h]

/-- R462: no byte was added. -/
theorem exec_chkRd_empty (h : s.accN = false) :
    exec .chkRd s = .next ((s.setRes 0).raise .invalidArgument .none) := by
  simp [exec, execChkRd, h]

/-- R463: a sequence of at least one byte. -/
theorem exec_chkSeq_ok {c : Byte} {rest : List Byte} (h : s.inSeq = c :: rest) :
    exec .chkSeq s = .next (s.setRes ((xorFrom c rest).setWidth 32)).done := by
  simp [exec, execChkSeq, h]

/-- R463: no bytes. -/
theorem exec_chkSeq_empty (h : s.inSeq = []) :
    exec .chkSeq s = .next ((s.setRes 0).raise .invalidArgument .none) := by
  simp [exec, execChkSeq, h]

/-- R510: every operand passes its check. -/
theorem exec_frmJog_ok (ha : flagsLegal s.argA = true) (hb : inInt16 (s32 s.argB) = true)
    (hc : inInt16 (s32 s.argC) = true) :
    exec .frmJog s =
      .next (s.build cmdJog ([byteOperand s.argA] ++ le16 (s32 s.argB) ++ le16 (s32 s.argC))) := by
  simp [exec, execFrmJog, ha, hb, hc]

/-- R510: a flag outside bits 3:0. -/
theorem exec_frmJog_flags (ha : flagsLegal s.argA = false) :
    exec .frmJog s = .next (s.failBuild .invalidArgument .a) := by
  simp [exec, execFrmJog, ha]

/-- R510: the pan speed outside int16. -/
theorem exec_frmJog_pan (ha : flagsLegal s.argA = true) (hb : inInt16 (s32 s.argB) = false) :
    exec .frmJog s = .next (s.failBuild .rangeError .b) := by
  simp [exec, execFrmJog, ha, hb]

/-- R510: the tilt speed outside int16. -/
theorem exec_frmJog_tilt (ha : flagsLegal s.argA = true) (hb : inInt16 (s32 s.argB) = true)
    (hc : inInt16 (s32 s.argC) = false) :
    exec .frmJog s = .next (s.failBuild .rangeError .c) := by
  simp [exec, execFrmJog, ha, hb, hc]

/-- R511 -/
theorem exec_frmStop (s : State) :
    exec .frmStop s = .next (s.build cmdJog ([jogStop] ++ le16 0 ++ le16 0)) := rfl

/-- R512: both axes in range. -/
theorem exec_frmAbs_ok (ha : within azLimit (s32 s.argA) = true)
    (hb : within elLimit (s32 s.argB) = true) :
    exec .frmAbs s = .next (s.build cmdAbs (le16 (s32 s.argA) ++ le16 (s32 s.argB))) := by
  simp [exec, execFrmAbs, ha, hb]

/-- R512: the azimuth out of range. -/
theorem exec_frmAbs_azimuth (ha : within azLimit (s32 s.argA) = false) :
    exec .frmAbs s = .next (s.failBuild .rangeError .a) := by
  simp [exec, execFrmAbs, ha]

/-- R512: the elevation out of range. -/
theorem exec_frmAbs_elevation (ha : within azLimit (s32 s.argA) = true)
    (hb : within elLimit (s32 s.argB) = false) :
    exec .frmAbs s = .next (s.failBuild .rangeError .b) := by
  simp [exec, execFrmAbs, ha, hb]

/-- R513: both deltas in int16. -/
theorem exec_frmDelta_ok (ha : inInt16 (s32 s.argA) = true) (hb : inInt16 (s32 s.argB) = true) :
    exec .frmDelta s = .next (s.build s.cfg.deltaCmd (le16 (s32 s.argA) ++ le16 (s32 s.argB))) := by
  simp [exec, execFrmDelta, ha, hb]

/-- R513: the azimuth delta outside int16. -/
theorem exec_frmDelta_azimuth (ha : inInt16 (s32 s.argA) = false) :
    exec .frmDelta s = .next (s.failBuild .rangeError .a) := by
  simp [exec, execFrmDelta, ha]

/-- R513: the elevation delta outside int16. -/
theorem exec_frmDelta_elevation (ha : inInt16 (s32 s.argA) = true)
    (hb : inInt16 (s32 s.argB) = false) :
    exec .frmDelta s = .next (s.failBuild .rangeError .b) := by
  simp [exec, execFrmDelta, ha, hb]

/-- R514 -/
theorem exec_frmZero (s : State) : exec .frmZero s = .next (s.build cmdZero []) := rfl

/-- R515 -/
theorem exec_frmHome (s : State) : exec .frmHome s = .next (s.build cmdHome []) := rfl

/-- R516 -/
theorem exec_frmSync (s : State) : exec .frmSync s = .next (s.build cmdJog []) := rfl

/-- R601: a response of at least nine bytes. -/
theorem exec_rspParse_ok (h : 9 ≤ s.inLen.toNat) :
    exec .rspParse s =
      .next ((s.setRsp s.responseFields).decodeFlags (s.inByte 4) (s.inByte 5) (s.inByte 6)).done := by
  have : ¬ s.inLen.toNat < rspLen := Nat.not_lt.2 h
  simp [exec, execRspParse, this]

/-- R601: a shorter one. -/
theorem exec_rspParse_short (h : s.inLen.toNat < 9) :
    exec .rspParse s =
      .next (((s.setRsp Response.zero).setCond 0 []).raise .malformedResponse .none) := by
  have : s.inLen.toNat < rspLen := h
  simp [exec, execRspParse, this]

/-- R621 -/
theorem exec_flgDecode (s : State) :
    exec .flgDecode s =
      .next (s.decodeFlags (triplePan s.argA) (tripleTilt s.argA) (tripleGen s.argA)).done := rfl

/-- Everything an operation can do, by the updates it is made of: a wire form into OUT, one of the
unescaper's three cases, a result or an error of a decoder or of the checksum, a frame or a failed
build, a parsed response, or decoded flags. -/
theorem exec_cases {i : Instr} {t : State} (h : exec i s = .next t) :
    (i = .esc ∧ ∃ b, t = (s.setOut (esc s.cfg b)).done) ∨
    (i = .unesc ∧ ∃ v n p, t = (((s.setRes v).setRes2 n).setPend p).done) ∨
    (i = .unescRst ∧ t = (s.setPend false).done) ∨
    (i = .enc16 ∧ ∃ v w, t = ((s.setOut (escAll s.cfg (le16 v))).setRes w).done) ∨
    (i ∈ [Instr.enc16, .frmJog, .frmAbs, .frmDelta] ∧ ∃ arg, t = s.failBuild .rangeError arg) ∨
    (i = .frmJog ∧ t = s.failBuild .invalidArgument .a) ∨
    (i = .dec16 ∧ ∃ v n, t = ((s.setRes v).setRes2 n).done) ∨
    (i = .dec16 ∧ t = ((s.setRes 0).setRes2 0).raise .malformedResponse .none) ∨
    (i = .chkClr ∧ t = (s.setAcc 0 false).done) ∨
    (i = .chkAdd ∧ ∃ x, t = (s.setAcc x true).done) ∨
    (i ∈ [Instr.chkRd, .chkSeq] ∧ ∃ v, t = (s.setRes v).done) ∨
    (i ∈ [Instr.chkRd, .chkSeq] ∧ t = (s.setRes 0).raise .invalidArgument .none) ∨
    (∃ cmd p, t = s.build cmd p ∧
      ((i = .frmJog ∧ cmd = cmdJog ∧ p.length = 5) ∨ (i = .frmStop ∧ cmd = cmdJog ∧ p.length = 5) ∨
        (i = .frmAbs ∧ cmd = cmdAbs ∧ p.length = 4) ∨
        (i = .frmDelta ∧ cmd = s.cfg.deltaCmd ∧ p.length = 4) ∨
        (i = .frmZero ∧ cmd = cmdZero ∧ p = []) ∨ (i = .frmHome ∧ cmd = cmdHome ∧ p = []) ∨
        (i = .frmSync ∧ cmd = cmdJog ∧ p = []))) ∨
    (i = .rspParse ∧ ∃ r p q g, t = ((s.setRsp r).decodeFlags p q g).done) ∨
    (i = .rspParse ∧
      t = ((s.setRsp Response.zero).setCond 0 []).raise .malformedResponse .none) ∨
    (i = .flgDecode ∧ ∃ p q g, t = (s.decodeFlags p q g).done) := by
  have len (v : Int) : (le16 v).length = 2 := rfl
  cases i
  case esc =>
    rw [exec_esc] at h
    injection h with h
    exact .inl ⟨rfl, _, h.symm⟩
  case unesc =>
    right; left
    refine ⟨rfl, ?_⟩
    cases hp : s.unescPend
    · by_cases hx : byteOperand s.argA = s.cfg.escIntro
      · rw [exec_unesc_intro hp hx] at h
        injection h with h
        exact ⟨_, _, _, h.symm⟩
      · rw [exec_unesc_plain hp hx] at h
        injection h with h
        refine ⟨(byteOperand s.argA).setWidth 32, 1, false, ?_⟩
        rw [← h, ← hp]
        rfl
    · rw [exec_unesc_pair hp] at h
      injection h with h
      exact ⟨_, _, _, h.symm⟩
  case unescRst =>
    rw [exec_unescRst] at h
    injection h with h
    simp [← h]
  case enc16 =>
    cases hr : inInt16 (s32 s.argA)
    · rw [exec_enc16_range hr] at h
      injection h with h
      simp [← h]
    · rw [exec_enc16_ok hr] at h
      injection h with h
      exact .inr (.inr (.inr (.inl ⟨rfl, _, _, h.symm⟩)))
  case dec16 =>
    cases hf : takeField s.cfg s.inSeq with
    | none =>
      rw [exec_dec16_short hf] at h
      injection h with h
      simp [← h]
    | some r =>
      obtain ⟨v, n⟩ := r
      rw [exec_dec16_ok hf] at h
      injection h with h
      simp [← h]
      exact .inl ⟨_, _, rfl⟩
  case chkClr =>
    rw [exec_chkClr] at h
    injection h with h
    simp [← h]
  case chkAdd =>
    rw [exec_chkAdd] at h
    injection h with h
    simp [← h]
    exact ⟨_, rfl⟩
  case chkRd =>
    cases hn : s.accN
    · rw [exec_chkRd_empty hn] at h
      injection h with h
      simp [← h]
    · rw [exec_chkRd_ok hn] at h
      injection h with h
      simp [← h]
      exact .inl ⟨_, rfl⟩
  case chkSeq =>
    cases hn : s.inSeq with
    | nil =>
      rw [exec_chkSeq_empty hn] at h
      injection h with h
      simp [← h]
    | cons c rest =>
      rw [exec_chkSeq_ok hn] at h
      injection h with h
      simp [← h]
      exact .inl ⟨_, rfl⟩
  case frmJog =>
    cases ha : flagsLegal s.argA
    · rw [exec_frmJog_flags ha] at h
      injection h with h
      simp [← h]
    cases hb : inInt16 (s32 s.argB)
    · rw [exec_frmJog_pan ha hb] at h
      injection h with h
      simp [← h]
    cases hc : inInt16 (s32 s.argC)
    · rw [exec_frmJog_tilt ha hb hc] at h
      injection h with h
      simp [← h]
    · rw [exec_frmJog_ok ha hb hc] at h
      injection h with h
      simp [← h]
      exact .inr (.inr ⟨_, rfl, by simp [len]⟩)
  case frmStop =>
    rw [exec_frmStop] at h
    injection h with h
    simp [← h]
    exact ⟨_, rfl, by simp [len]⟩
  case frmAbs =>
    cases ha : within azLimit (s32 s.argA)
    · rw [exec_frmAbs_azimuth ha] at h
      injection h with h
      simp [← h]
    cases hb : within elLimit (s32 s.argB)
    · rw [exec_frmAbs_elevation ha hb] at h
      injection h with h
      simp [← h]
    · rw [exec_frmAbs_ok ha hb] at h
      injection h with h
      simp [← h]
      exact .inr ⟨_, rfl, by simp [len]⟩
  case frmDelta =>
    cases ha : inInt16 (s32 s.argA)
    · rw [exec_frmDelta_azimuth ha] at h
      injection h with h
      simp [← h]
    cases hb : inInt16 (s32 s.argB)
    · rw [exec_frmDelta_elevation ha hb] at h
      injection h with h
      simp [← h]
    · rw [exec_frmDelta_ok ha hb] at h
      injection h with h
      simp [← h]
      exact .inr ⟨_, rfl, by simp [len]⟩
  case frmZero =>
    rw [exec_frmZero] at h
    injection h with h
    simp [← h]
  case frmHome =>
    rw [exec_frmHome] at h
    injection h with h
    simp [← h]
  case frmSync =>
    rw [exec_frmSync] at h
    injection h with h
    simp [← h]
  case rspParse =>
    by_cases hn : 9 ≤ s.inLen.toNat
    · rw [exec_rspParse_ok hn] at h
      injection h with h
      simp [← h]
      exact .inl ⟨_, _, _, _, rfl⟩
    · rw [exec_rspParse_short (by omega)] at h
      injection h with h
      simp [← h]
  case flgDecode =>
    rw [exec_flgDecode] at h
    injection h with h
    simp [← h]
    exact ⟨_, _, _, rfl⟩

end Sys2Proof.Machine
end

