-- ==== Sys2Proof/Laws/PerInstr.lean ====
section
/-!
SUPPORT. A statement about every instruction as syntax, one lemma per constructor.
-/

namespace Sys2Proof.Laws

/-- R300: the operation word of an instruction has its code in bits 7:0, which is not 0 (R304), and 0 in
bits 31:8. -/
def OperationWord.Statement (i : Instr) : Prop :=
  i.wf = true ∧ (encode i).extractLsb' 0 8 = opcode i ∧ (encode i).extractLsb' 8 24 = 0#24 ∧
    opcode i ≠ 0#8

theorem OperationWord.esc : OperationWord.Statement .esc := by simp [OperationWord.Statement, Instr.wf, encode, opcode]
theorem OperationWord.unesc : OperationWord.Statement .unesc := by simp [OperationWord.Statement, Instr.wf, encode, opcode]
theorem OperationWord.unescRst : OperationWord.Statement .unescRst := by simp [OperationWord.Statement, Instr.wf, encode, opcode]
theorem OperationWord.enc16 : OperationWord.Statement .enc16 := by simp [OperationWord.Statement, Instr.wf, encode, opcode]
theorem OperationWord.dec16 : OperationWord.Statement .dec16 := by simp [OperationWord.Statement, Instr.wf, encode, opcode]
theorem OperationWord.chkClr : OperationWord.Statement .chkClr := by simp [OperationWord.Statement, Instr.wf, encode, opcode]
theorem OperationWord.chkAdd : OperationWord.Statement .chkAdd := by simp [OperationWord.Statement, Instr.wf, encode, opcode]
theorem OperationWord.chkRd : OperationWord.Statement .chkRd := by simp [OperationWord.Statement, Instr.wf, encode, opcode]
theorem OperationWord.chkSeq : OperationWord.Statement .chkSeq := by simp [OperationWord.Statement, Instr.wf, encode, opcode]
theorem OperationWord.frmJog : OperationWord.Statement .frmJog := by simp [OperationWord.Statement, Instr.wf, encode, opcode]
theorem OperationWord.frmStop : OperationWord.Statement .frmStop := by simp [OperationWord.Statement, Instr.wf, encode, opcode]
theorem OperationWord.frmAbs : OperationWord.Statement .frmAbs := by simp [OperationWord.Statement, Instr.wf, encode, opcode]
theorem OperationWord.frmDelta : OperationWord.Statement .frmDelta := by simp [OperationWord.Statement, Instr.wf, encode, opcode]
theorem OperationWord.frmZero : OperationWord.Statement .frmZero := by simp [OperationWord.Statement, Instr.wf, encode, opcode]
theorem OperationWord.frmHome : OperationWord.Statement .frmHome := by simp [OperationWord.Statement, Instr.wf, encode, opcode]
theorem OperationWord.frmSync : OperationWord.Statement .frmSync := by simp [OperationWord.Statement, Instr.wf, encode, opcode]
theorem OperationWord.rspParse : OperationWord.Statement .rspParse := by simp [OperationWord.Statement, Instr.wf, encode, opcode]
theorem OperationWord.flgDecode : OperationWord.Statement .flgDecode := by simp [OperationWord.Statement, Instr.wf, encode, opcode]

end Sys2Proof.Laws
end

