-- ==== Sys2Proof/Laws/Step.lean ====
section
/-!
SUPPORT. What a step can do, said once: every invariant is derived from `step_cases`.
-/

namespace Sys2Proof.Machine

/-- The step of an accepted configuration with a pending access. -/
theorem step_cons {s : State} {e : BusEvent} {rest : List BusEvent} (hc : s.cfg.accepted = true)
    (hp : s.pending = e :: rest) : step s = (s.setPending rest).takeEvent e := by
  simp [step, hc, hp]

/-- A host read of a register. -/
theorem step_read {s : State} {off : Nat} {rest : List BusEvent} (hc : s.cfg.accepted = true)
    (hp : s.pending = .read 32 (s.cfg.base + off) :: rest) (h1 : off < 0x200) (h2 : off % 4 = 0) :
    step s = .next ((s.setPending rest).setLastRead ((s.setPending rest).readRegister off)) := by
  rw [step_cons hc hp]
  simp only [State.takeEvent, State.setPending_cfg, classifyAccess_register s.cfg h1 h2]

/-- A host write of a register other than CMD. -/
theorem step_write {s : State} {off : Nat} {v : Word} {rest : List BusEvent}
    (hc : s.cfg.accepted = true) (hp : s.pending = .write 32 (s.cfg.base + off) v :: rest)
    (h1 : off < 0x200) (h2 : off % 4 = 0) (h0 : off ≠ 0) :
    step s = .next ((s.setPending rest).tick.writeRegister off v) := by
  rw [step_cons hc hp]
  simp only [State.takeEvent, State.setPending_cfg, classifyAccess_register s.cfg h1 h2,
    State.takeWrite, if_neg h0]

/-- A host write of CMD. -/
theorem step_command {s : State} {w : Word} {rest : List BusEvent} (hc : s.cfg.accepted = true)
    (hp : s.pending = .write 32 s.cfg.base w :: rest) :
    step s = (s.setPending rest).tick.performCommand w := by
  rw [step_cons hc hp]
  have h := classifyAccess_register s.cfg (off := 0) (by decide) (by decide)
  rw [Nat.add_zero] at h
  simp only [State.takeEvent, State.setPending_cfg, h, State.takeWrite, if_true]

/-- A write of `w` to CMD either runs the operation it decodes to or raises IllegalOp. -/
theorem State.performCommand_cases (s : State) (w : Word) :
    (∃ i, decode w = .ok i ∧ s.performCommand w = exec i (s.setCmdLast w)) ∨
      ((∃ e, decode w = .error e) ∧
        s.performCommand w = .next ((s.setCmdLast w).raise .illegalOp .none)) := by
  unfold State.performCommand
  cases h : decode w with
  | ok i => exact .inl ⟨i, rfl, rfl⟩
  | error e => exact .inr ⟨⟨e, rfl⟩, rfl⟩

/-- If a step answers a next state, then one of these happened: nothing was pending; the block was
reset; the host read a register; the host wrote a register other than CMD; the host wrote CMD. -/
theorem step_cases {s t : State} (h : step s = .next t) :
    s.cfg.accepted = true ∧
      ((s.pending = [] ∧ t = s) ∨
        ∃ e rest, s.pending = e :: rest ∧
          ((e = .reset ∧ t = (s.setPending rest).externalReset) ∨
            (∃ off, e = .read 32 (s.cfg.base + off) ∧ off < 0x200 ∧ off % 4 = 0 ∧
              t = (s.setPending rest).setLastRead ((s.setPending rest).readRegister off)) ∨
            (∃ off v, e = .write 32 (s.cfg.base + off) v ∧ off < 0x200 ∧ off % 4 = 0 ∧ off ≠ 0 ∧
              t = (s.setPending rest).tick.writeRegister off v) ∨
            (∃ w, e = .write 32 s.cfg.base w ∧
              (s.setPending rest).tick.performCommand w = .next t))) := by
  have hc : s.cfg.accepted = true := by
    by_contra hc
    simp [step, hc] at h
  refine ⟨hc, ?_⟩
  match hp : s.pending with
  | [] =>
    left
    simp only [step, hc, hp, if_true] at h
    exact ⟨rfl, by injection h with h; exact h.symm⟩
  | e :: rest =>
    right
    rw [step_cons hc hp] at h
    refine ⟨e, rest, rfl, ?_⟩
    cases e with
    | reset =>
      simp only [State.takeEvent] at h
      injection h with h
      exact .inl ⟨rfl, h.symm⟩
    | read bits addr =>
      simp only [State.takeEvent, State.setPending_cfg] at h
      cases hk : classifyAccess s.cfg bits addr with
      | register off =>
        simp only [hk] at h
        obtain ⟨⟨hb, h1, h2, h3⟩, ha⟩ := classifyAccess_eq_register hk
        injection h with h
        subst hb ha
        exact .inr (.inl ⟨off, rfl, by omega, by omega, h.symm⟩)
      | outside => simp [hk] at h
      | badWidth => simp [hk] at h
      | misaligned => simp [hk] at h
    | write bits addr v =>
      simp only [State.takeEvent, State.setPending_cfg] at h
      cases hk : classifyAccess s.cfg bits addr with
      | register off =>
        simp only [hk, State.takeWrite] at h
        obtain ⟨⟨hb, h1, h2, h3⟩, ha⟩ := classifyAccess_eq_register hk
        subst hb ha
        by_cases h0 : off = 0
        · subst h0
          rw [if_pos rfl] at h
          exact .inr (.inr (.inr ⟨v, by simp, h⟩))
        · rw [if_neg h0] at h
          injection h with h
          exact .inr (.inr (.inl ⟨off, v, rfl, by omega, by omega, h0, h.symm⟩))
      | outside => simp [hk] at h
      | badWidth => simp [hk] at h
      | misaligned => simp [hk] at h

/-- A run of one more step. -/
theorem run_succ {k : Nat} {s t : State} (h : step s = .next t) :
    core.run (k + 1) s = core.run k t := by
  have hs : Host.Core.step core s = .next t := h
  simp only [Host.Core.run, hs]

/-- A run that begins with a host write of a register other than CMD. -/
theorem run_write {s : State} {off k : Nat} {v : Word} {rest : List BusEvent}
    (hc : s.cfg.accepted = true) (hp : s.pending = .write 32 (s.cfg.base + off) v :: rest)
    (h1 : off < 0x200) (h2 : off % 4 = 0) (h0 : off ≠ 0) :
    core.run (k + 1) s = core.run k ((s.setPending rest).tick.writeRegister off v) :=
  run_succ (step_write hc hp h1 h2 h0)

/-- A run that begins with the CMD write of an operation. -/
theorem run_command {s t : State} {w : Word} {i : Instr} {k : Nat} {rest : List BusEvent}
    (hc : s.cfg.accepted = true) (hp : s.pending = .write 32 (s.cfg.base + 0) w :: rest)
    (hd : decode w = .ok i) (ht : exec i ((s.setPending rest).tick.setCmdLast w) = .next t) :
    core.run (k + 1) s = core.run k t := by
  apply run_succ
  rw [step_command hc hp, State.performCommand, hd]
  exact ht

end Sys2Proof.Machine
end

