-- ==== Sys2Proof/Tests/Slice0.lean ====
section
/-!
SUPPORT. Tests: refused configurations and flag names, the operation words written out bit by bit, one
step per operation against spec/95_test_vectors.md, the host assembly language, the degree conversion
of the host, and for every obligation that has hypotheses a concrete state that meets them.
-/

open Sys2Proof Sys2Proof.Machine

namespace Sys2Proof.Tests

/-! ### Well-formedness (R12, R612) -/

theorem test_standard_wf : Config.standard.wf = true := by decide

/-- R12: the source-literal escape configuration violates W1. -/
theorem test_w1_refuses_source_literal :
    Config.sourceLiteral.w1 = false ∧ Config.sourceLiteral.accepted = true := by decide

/-- 0x82 is 0x02 XOR 0x80, so it may not be a control byte. -/
theorem test_w2_refuses_paired_control : ({ Config.standard with nakByte := 0x82#8 } : Config).w2 = false := by
  decide

theorem test_w3_refuses_control_delta :
    ({ Config.standard with deltaCmd := 0x0F#8 } : Config).accepted = false := by decide

theorem test_w3_refuses_taken_delta :
    ({ Config.standard with deltaCmd := 0x36#8 } : Config).accepted = false := by decide

theorem test_w4_refuses_short_out :
    ({ Config.standard with outMax := 13 } : Config).accepted = false ∧
    ({ Config.standard with outMax := 14, escChk := true } : Config).accepted = false ∧
    ({ Config.standard with outMax := 14 } : Config).accepted = true := by decide

theorem test_w5_refuses_in_size :
    ({ Config.standard with inMax := 8 } : Config).accepted = false ∧
    ({ Config.standard with inMax := 257 } : Config).accepted = false ∧
    ({ Config.standard with inMax := 9 } : Config).accepted = true := by decide

/-- I15: a configuration that breaks W4 is refused at the step. -/
theorem test_step_refuses_configuration :
    (match step (State.resetWith { Config.standard with outMax := 13 }) with
      | .refused r => decide (r = .illFormedConfiguration)
      | _ => false) = true := by decide

/-- One of the choices R612 allows. -/
def someNames : FlagNames where
  pan := [.panResolverFault, .overload, .directionError, .timeout, .counterClockwiseHardLimit,
    .clockwiseHardLimit, .counterClockwiseSoftLimit, .clockwiseSoftLimit]
  tilt := [.upSoftLimit, .downSoftLimit, .upHardLimit, .downHardLimit, .timeout, .directionError,
    .overload, .tiltResolverFault]
  general := [.highResolutionMode, .executing, .destination, .softLimitOverride, .motionDirection 0,
    .motionDirection 1, .motionDirection 2, .motionDirection 3]

theorem test_flag_names_wf : someNames.wf = true := by decide

theorem test_flag_names_refuse_short : ({ someNames with tilt := [] } : FlagNames).wf = false := by decide

theorem test_flag_names_refuse_repeat :
    ({ someNames with general := List.replicate 8 .executing } : FlagNames).wf = false := by decide

/-- R611: (Pan, 7) is fixed. -/
theorem test_flag_names_refuse_pan7 :
    ({ someNames with pan := someNames.pan.reverse } : FlagNames).wf = false := by decide

/-! ### Decoding: words written out from R300 and R302 -/

theorem test_decode_codec_words :
    decode 0b00000000000000000000000000000001#32 = .ok .esc ∧
    decode 0b00000000000000000000000000000010#32 = .ok .unesc ∧
    decode 0b00000000000000000000000000000011#32 = .ok .unescRst ∧
    decode 0b00000000000000000000000000000100#32 = .ok .enc16 ∧
    decode 0b00000000000000000000000000000101#32 = .ok .dec16 := by
  refine ⟨?_, ?_, ?_, ?_, ?_⟩ <;> rfl

theorem test_decode_checksum_words :
    decode 0b00000000000000000000000000001000#32 = .ok .chkClr ∧
    decode 0b00000000000000000000000000001001#32 = .ok .chkAdd ∧
    decode 0b00000000000000000000000000001010#32 = .ok .chkRd ∧
    decode 0b00000000000000000000000000001011#32 = .ok .chkSeq := by
  refine ⟨?_, ?_, ?_, ?_⟩ <;> rfl

theorem test_decode_frame_words :
    decode 0b00000000000000000000000000010000#32 = .ok .frmJog ∧
    decode 0b00000000000000000000000000010001#32 = .ok .frmStop ∧
    decode 0b00000000000000000000000000010010#32 = .ok .frmAbs ∧
    decode 0b00000000000000000000000000010011#32 = .ok .frmDelta ∧
    decode 0b00000000000000000000000000010100#32 = .ok .frmZero ∧
    decode 0b00000000000000000000000000010101#32 = .ok .frmHome ∧
    decode 0b00000000000000000000000000010110#32 = .ok .frmSync := by
  refine ⟨?_, ?_, ?_, ?_, ?_, ?_, ?_⟩ <;> rfl

theorem test_decode_parser_words :
    decode 0b00000000000000000000000000100000#32 = .ok .rspParse ∧
    decode 0b00000000000000000000000000100001#32 = .ok .flgDecode := by
  refine ⟨?_, ?_⟩ <;> rfl

/-- R304: unassigned codes and words with a bit of 31:8 set. -/
theorem test_decode_illegal_words :
    decode 0b00000000000000000000000000000111#32 = .error (.unassignedCode 0x07) ∧
    decode 0b00000000000000000000000000010111#32 = .error (.unassignedCode 0x17) ∧
    decode 0b00000000000000000000000000100010#32 = .error (.unassignedCode 0x22) ∧
    decode 0b00000000000000000000000100000001#32 = .error (.upperBitsSet 0x00000101) := by
  refine ⟨?_, ?_, ?_, ?_⟩ <;> rfl

/-- R206, R300: the bytes of FRM_JOG's word in the order of the bus, and a short read. -/
theorem test_decode_bytes :
    decodeBytes [0x10, 0x00, 0x00, 0x00] = .ok .frmJog ∧ decodeBytes [0x10, 0x00] = .error (.notOneWord 2) ∧
    decodeBytes [0x00, 0x00, 0x00, 0x10] = .error (.upperBitsSet 0x10000000) := by
  refine ⟨?_, ?_, ?_⟩ <;> rfl

theorem test_decode_table_word :
    decodeTableWord 32 0x21 = some .flgDecode ∧ decodeTableWord 32 0x80000014 = none ∧
    decodeTableWord 8 0x05 = some .dec16 := by decide

/-! ### One step of each operation (spec/95_test_vectors.md sections 1 and 2) -/

/-- The reset state with operands. -/
def withArgs (a b c : Int) : State :=
  { State.reset with argA := BitVec.ofInt 32 a, argB := BitVec.ofInt 32 b, argC := BitVec.ofInt 32 c }

/-- Cells from an index on. -/
def cellsFrom : Nat → List Byte → Memory
  | _, [] => []
  | k, b :: bs => (k, b) :: cellsFrom (k + 1) bs

/-- The reset state with IN holding a sequence. -/
def loaded (bs : List Byte) : State :=
  { State.reset with inBuf := cellsFrom 0 bs, inLen := BitVec.ofNat 9 bs.length }

/-- The state after an operation. -/
def after (i : Instr) (s : State) : Option State :=
  match exec i s with
  | .next t => some t
  | _ => none

/-- OUT, RES and how the operation ended. -/
def built (i : Instr) (s : State) : Option (List Byte × Word × ErrKind × ErrArg) :=
  (after i s).map fun t => (t.out, t.res, t.err, t.errArg)

/-- RES, RES2 and ERR. -/
def results (i : Instr) (s : State) : Option (Word × Word × ErrKind) :=
  (after i s).map fun t => (t.res, t.res2, t.err)

/-- FLAGS, COND and ERR. -/
def flagged (i : Instr) (s : State) : Option (BitVec 24 × List Byte × ErrKind) :=
  (after i s).map fun t => (t.flags, t.cond, t.err)

theorem test_esc_control : (after .esc (withArgs 0x103 0 0)).map (·.out) = some [0x1B, 0x83] := by decide

/-- ESC_CMP = 0x27: 0x1B goes out bare. -/
theorem test_esc_source_literal :
    (after .esc { withArgs 0x1B 0 0 with cfg := Config.sourceLiteral }).map (·.out) = some [0x1B] := by decide

theorem test_unesc_introducer_pending :
    results .unesc { withArgs 0x1B 0 0 with unescPend := true } = some (0x9B, 1, .none) := by decide

theorem test_unesc_introducer_first :
    (after .unesc (withArgs 0x1B 0 0)).map (fun t => (t.res2, t.unescPend)) = some (0, true) := by decide

theorem test_unesc_rst : (after .unescRst { withArgs 0x41 0 0 with unescPend := true }).map (·.unescPend) =
    some false := by decide

theorem test_enc16_negative :
    built .enc16 (withArgs (-253) 0 0) = some ([0x1B, 0x83, 0xFF], 0x0000FF03, .none, .none) := by decide

theorem test_enc16_range : built .enc16 (withArgs 32768 0 0) = some ([], 0, .rangeError, .a) := by decide

theorem test_dec16_pair :
    results .dec16 (loaded [0x1B, 0x83, 0xFF]) = some (0xFFFFFF03, 3, .none) := by decide

theorem test_dec16_last_introducer :
    results .dec16 (loaded [0x1B, 0x83, 0x1B]) = some (0, 0, .malformedResponse) := by decide

theorem test_chk_clr :
    (after .chkClr { State.reset with acc := 0x35, accN := true }).map (fun t => (t.acc, t.accN)) =
      some (0, false) := by decide

theorem test_chk_add :
    (after .chkAdd { withArgs 0x144 0 0 with acc := 0x23 }).map (fun t => (t.acc, t.accN)) =
      some (0x67, true) := by decide

theorem test_chk_rd :
    results .chkRd { State.reset with acc := 0x2D, accN := true } = some (0x2D, 0, .none) := by decide

theorem test_chk_rd_empty : results .chkRd State.reset = some (0, 0, .invalidArgument) := by decide

theorem test_chk_seq : results .chkSeq (loaded [0x31, 0xFF]) = some (0xCE, 0, .none) := by decide

theorem test_chk_seq_empty : results .chkSeq (loaded []) = some (0, 0, .invalidArgument) := by decide

/-- The longest frame. -/
theorem test_frm_jog_longest :
    built .frmJog (withArgs 0x0F 515 515) =
      some ([0x02, 0x31, 0x1B, 0x8F, 0x1B, 0x83, 0x1B, 0x82, 0x1B, 0x83, 0x1B, 0x82, 0x3E, 0x03],
        0x3E, .none, .none) := by decide

theorem test_frm_jog_flags_first :
    built .frmJog (withArgs 0x10 40000 0) = some ([], 0, .invalidArgument, .a) := by decide

theorem test_frm_stop :
    built .frmStop (withArgs 7 8 9) =
      some ([0x02, 0x31, 0x04, 0x00, 0x00, 0x00, 0x00, 0x35, 0x03], 0x35, .none, .none) := by decide

theorem test_frm_abs :
    built .frmAbs (withArgs 900 450 0) =
      some ([0x02, 0x33, 0x84, 0x1B, 0x83, 0xC2, 0x01, 0x77, 0x03], 0x77, .none, .none) := by decide

theorem test_frm_abs_escaped_checksum :
    built .frmAbs { withArgs 48 0 0 with cfg := { Config.standard with escChk := true } } =
      some ([0x02, 0x33, 0x30, 0x00, 0x00, 0x00, 0x1B, 0x83, 0x03], 0x03, .none, .none) := by decide

theorem test_frm_delta :
    built .frmDelta (withArgs 10 (-10) 0) =
      some ([0x02, 0x34, 0x0A, 0x00, 0xF6, 0xFF, 0x37, 0x03], 0x37, .none, .none) := by decide

theorem test_frm_delta_range : built .frmDelta (withArgs 0 (-32769) 0) = some ([], 0, .rangeError, .b) := by
  decide

theorem test_frm_zero :
    built .frmZero State.reset = some ([0x02, 0x35, 0x35, 0x03], 0x35, .none, .none) := by decide

theorem test_frm_home :
    built .frmHome State.reset = some ([0x02, 0x36, 0x36, 0x03], 0x36, .none, .none) := by decide

theorem test_frm_sync :
    built .frmSync State.reset = some ([0x02, 0x31, 0x31, 0x03], 0x31, .none, .none) := by decide

theorem test_rsp_parse :
    flagged .rspParse (loaded [0x06, 0x31, 0x7F, 0x80, 0x41, 0x22, 0x84, 0x5A, 0x03, 0xEE, 0xEE]) =
      some (0x842241, [0x06, 0x00, 0x0D, 0x09, 0x17, 0x12], .none) := by decide

theorem test_rsp_parse_short :
    flagged .rspParse (loaded [0x06, 0x33, 0x10, 0x20, 0x80, 0x00, 0x00, 0x00]) =
      some (0, [], .malformedResponse) := by decide

theorem test_flg_decode :
    flagged .flgDecode { State.reset with argA := 0xFF810380 } =
      some (0x810380, [0x07, 0x09, 0x08, 0x17, 0x10], .none) := by decide

/-! ### Steps of the bus -/

/-- A state about to take one host access. -/
def facing (s : State) (e : BusEvent) : State := { s with pending := [e] }

/-- The state after a step. -/
def stepped (s : State) : Option State :=
  match step s with
  | .next t => some t
  | _ => none

/-- The word of the table placed where the next operation comes from. -/
theorem test_with_fetch_word :
    (stepped (State.reset.withFetchWord 32 0x14)).map (fun t => (t.out, t.cmdLast, t.pending)) =
      some ([0x02, 0x35, 0x35, 0x03], 0x14, []) := by decide

/-- 95_test_vectors.md 2.7: 0x80000014 is not FRM_ZERO. -/
theorem test_illegal_word :
    (stepped (facing { State.reset with res := 0x35 } (.write 32 0 0x80000014))).map
      (fun t => (t.err, t.errSticky, t.res, t.cmdLast)) = some (.illegalOp, true, 0x35, 0x80000014) := by
  decide

/-- P2: STATUS at the end of the program reads 0x00000500. -/
theorem test_read_status :
    (stepped (facing { State.reset with accN := true, errSticky := true } (.read 32 0x014))).map
      (·.lastRead) = some (some 0x500) := by decide

/-- P3: RSP0 after the second response. -/
theorem test_read_rsp0 :
    (stepped (facing { State.reset with rsp := ⟨0x06, 0x31, 0x7F, 0x80, 0x41, 0x22, 0x84, 0x5A, 0x03⟩ }
      (.read 32 0x030))).map (·.lastRead) = some (some 0x807F3106) := by decide

/-- R203: INW1 takes IN bytes 4 to 7 from the lanes of the word. -/
theorem test_write_inw1 :
    (stepped (facing State.reset (.write 32 0x104 0x0000EDFE))).map (·.inBuf) =
      some [(4, 0xFE), (5, 0xED), (6, 0x00), (7, 0x00)] := by decide

/-- R110: IN_LEN takes min(v, IN_MAX), v the whole word. -/
theorem test_write_in_len :
    (stepped (facing State.reset (.write 32 0x010 0x80000000))).map (·.inLen) = some 256 := by decide

/-! ### The host assembly language (R312, R313) -/

/-- P1: `FRM_ABS 3600, -450`. -/
theorem test_statement_writes :
    (Stmt.op .frmAbs [3600, -450]).writes =
      [(0x004, 0x00000E10#32), (0x008, 0xFFFFFE3E#32), (0x000, 0x00000012#32)] := by decide

/-- P2: `LDIN` of six bytes. -/
theorem test_ldin_writes :
    (Stmt.ldin [0x33, 0x10, 0x0E, 0x3E, 0xFE, 0xED]).writes =
      [(0x100, 0x3E0E1033#32), (0x104, 0x0000EDFE#32), (0x010, 6#32)] := by decide

theorem test_line_operation :
    lineOf "FRM_JOG 2, 515, -253 ; jog".toList = some [.op .frmJog [2, 515, -253]] := by decide

theorem test_line_register :
    lineOf "WR INW63, 0xFF".toList = some [.wr 0x1FC 255] ∧ lineOf "RD STATUS".toList = some [.rd 0x014] ∧
    lineOf "RD INW64".toList = none := by decide

theorem test_line_pseudo :
    lineOf "CLRSTICKY".toList = some [.clrSticky] ∧ lineOf "; nothing".toList = some [] ∧
    lineOf "LDIN 0x06, 256".toList = none := by decide

/-! ### The host's conversion (R521) -/

theorem test_host_tenths :
    hostTenths 360 1 = some 3600 ∧ hostTenths 3601 10 = some 3601 ∧ hostTenths (-4567) 100 = some (-456) ∧
    hostTenths 214748365 1 = none := by decide

/-- The model's choice where R521 is open: the truncation is what must fit (notes/assumptions/24.md). -/
theorem test_host_tenths_fit : hostTenths 4294967295 20 = some 2147483647 := by decide

/-! ### Witnesses: a state and operands that meet the hypotheses of each obligation -/

/-- DecodeAndEncodeAgree: each of its three parts has an instance. -/
theorem witness_decodeAndEncodeAgree :
    Instr.frmSync.wf = true ∧ decode 0x16 = .ok .frmSync ∧ decode 0x100 = .error (.upperBitsSet 0x100) ∧
    decode 0 = .error (.unassignedCode 0) := by
  refine ⟨?_, ?_, ?_, ?_⟩ <;> rfl

theorem witness_commandWrite :
    State.reset.cfg.accepted = true ∧
    (facing State.reset (.write 32 0 0x16)).pending = .write 32 State.reset.cfg.base 0x16 :: [] ∧
    decode 0x16 = .ok .frmSync := by
  refine ⟨?_, ?_, ?_⟩ <;> rfl

theorem witness_illegalWord :
    (facing State.reset (.write 32 0 0x101)).pending = .write 32 State.reset.cfg.base 0x101 :: [] ∧
    decode 0x101 = .error (.upperBitsSet 0x101) := by
  refine ⟨?_, ?_⟩ <;> rfl

theorem witness_idle : State.reset.cfg.accepted = true ∧ State.reset.pending = [] := by decide

/-- LegalAccessNeverStops: the first and the last word of the window; a reset needs nothing. -/
theorem witness_legalAccess :
    AccessLegal Config.standard 32 0x000 ∧ AccessLegal Config.standard 32 0x1FC ∧
    (facing State.reset .reset).pending = .reset :: [] := by
  refine ⟨⟨rfl, ?_, ?_, ?_⟩, ⟨rfl, ?_, ?_, ?_⟩, rfl⟩ <;> decide

/-- A configuration whose window does not begin at address 0. -/
def based : Config := { Config.standard with base := 0x1000 }

/-- IllegalAccessStops: a narrow access, a misaligned one, and the addresses just outside the window. -/
theorem witness_illegalAccess :
    based.accepted = true ∧
    (BusEvent.read 16 0x1000) ∈ [BusEvent.read 16 0x1000, .write 16 0x1000 0] ∧
    (based.base ≤ 0x1000 ∧ 0x1000 < based.base + 0x200 ∧ 16 ≠ 32) ∧
    (based.base ≤ 0x11FF ∧ 0x11FF < based.base + 0x200 ∧ (0x11FF - based.base) % 4 ≠ 0) ∧
    (0xFFF < based.base) ∧ (based.base + 0x200 ≤ 0x1200) := by decide

theorem witness_reads :
    ({ State.reset with
      pending := [.read 32 0x040, .read 32 0x000, .read 32 0x1FC, .read 32 0x040] } : State).pending =
      .read 32 0x040 :: [0x000, 0x1FC].map (BusEvent.read 32) ++ .read 32 0x040 :: [] ∧
    AccessLegal Config.standard 32 0x040 ∧ ∀ a ∈ [0x000, 0x1FC], AccessLegal Config.standard 32 a := by
  unfold AccessLegal
  decide

/-- RegisterMapReads: every register, and unlisted offsets at the ends of the gaps. -/
theorem witness_registerMap :
    ∀ off ∈ [0x000, 0x004, 0x008, 0x00C, 0x010, 0x014, 0x018, 0x01C, 0x020, 0x024, 0x028, 0x02C, 0x030,
        0x034, 0x038, 0x03C, 0x050, 0x05C, 0x078, 0x0FC],
      off < 0x200 ∧ off % 4 = 0 ∧
      (facing State.reset (.read 32 off)).pending = .read 32 (State.reset.cfg.base + off) :: [] := by
  decide

theorem reset_inv : State.reset.Inv := by
  constructor <;> decide

/-- The invariant does not speak of what is pending. -/
theorem inv_facing {s : State} (h : s.Inv) (e : BusEvent) : (facing s e).Inv :=
  ⟨h.accepted, h.inCanonical, h.inBounded, h.inLenBounded, h.outCounted, h.outBounded, h.condCounted,
    h.condBounded, h.condOfFlags, h.accEmpty, h.argOfError⟩

/-- A full state: the longest OUT, all conditions, the last byte of IN. -/
def full : State :=
  { State.reset with
    out := [0x02, 0x31, 0x1B, 0x8F, 0x1B, 0x83, 0x1B, 0x82, 0x1B, 0x83, 0x1B, 0x82, 0x3E, 0x03], outLen := 14
    flags := 0xFFFFFF, cond := condCodes 0xFF 0xFF 0xFF, condN := 24, inBuf := [(0, 0x06), (255, 0x7A)] }

theorem full_inv : full.Inv := by
  constructor <;> decide

/-- A state whose IN has nine bytes, so that lane 1 of INW2 is reserved. -/
def narrow : State := State.resetWith { Config.standard with inMax := 9 }

theorem narrow_inv : narrow.Inv := by
  constructor <;> decide

/-- BufferWordsPackBytes: the first and the last byte of each buffer, and a reserved lane. -/
theorem witness_bufferWords :
    (facing full (.read 32 0x040)).Inv ∧ 0x040 + 0 = 0x040 + 0 ∧ 0 < full.out.length ∧
    0x040 + 13 = 0x04C + 1 ∧ 13 < full.out.length ∧
    0x060 + 23 = 0x074 + 3 ∧ 23 < full.cond.length ∧
    0x100 + 255 = 0x1FC + 3 ∧ full.inBuf.read 255 = some 0x7A ∧
    (facing narrow (.read 32 0x108)).Inv ∧ 0x100 + 9 = 0x108 + 1 ∧ narrow.cfg.inMax ≤ 9 :=
  ⟨inv_facing full_inv _, by decide, by decide, by decide, by decide, by decide, by decide, by decide,
    by decide, inv_facing narrow_inv _, by decide, by decide⟩

/-- HostWritesOperandsAndBuffer: each register, the first and the last word of IN, a reserved lane. -/
theorem witness_hostWrites :
    (∀ off ∈ [0x004, 0x008, 0x00C, 0x010, 0x100, 0x1FC],
      (facing full (.write 32 off 0x12345678)).Inv ∧ off < 0x200 ∧ off % 4 = 0) ∧
    (facing narrow (.write 32 0x108 0x12345678)).Inv ∧ 0x100 + 8 = 0x108 + 0 ∧ 8 < narrow.cfg.inMax := by
  refine ⟨fun off h => ⟨inv_facing full_inv _, ?_⟩, inv_facing narrow_inv _, by decide, by decide⟩
  revert off
  decide

theorem witness_readOnlyWrites :
    ∀ off ∈ [0x018, 0x038, 0x03C, 0x040, 0x060, 0x0FC],
      off % 4 = 0 ∧ 0x018 ≤ off ∧ off < 0x100 ∧
      (facing State.reset (.write 32 off 1)).pending = .write 32 (State.reset.cfg.base + off) 1 :: [] := by
  decide

theorem witness_statusWrite :
    (facing State.reset (.write 32 0x014 0x100)).pending =
      .write 32 (State.reset.cfg.base + 0x014) 0x100 :: [] ∧
    (0x100#32).getLsbD 8 = true ∧ (0xFFFFFEFF#32).getLsbD 8 = false := by decide

theorem witness_externalReset :
    (facing full .reset).cfg.accepted = true ∧ (facing full .reset).pending = .reset :: [] := by decide

/-- ResetSatisfiesInvariant: an accepted configuration that is not the default one. -/
theorem witness_acceptedConfiguration : based.accepted = true := by decide

/-- EveryStepKeepsInvariant, ResetValuesAndFixedParameters: a step that changes the state. -/
theorem witness_step :
    (facing full (.write 32 0 0x16)).Inv ∧
    ∃ t, step (facing full (.write 32 0 0x16)) = .next t ∧ t.out = [0x02, 0x31, 0x31, 0x03] :=
  ⟨inv_facing full_inv _, _, rfl, by decide⟩

/-- EscWritesWireForm: a byte of each kind. -/
theorem witness_esc :
    (withArgs 0x1B 0 0).argA.setWidth 8 ∈ [0x02#8, 0x03#8, 0x06#8, 0x0F#8, 0x1B#8] ∧
    (withArgs 0x27 0 0).argA.setWidth 8 ∉ [0x02#8, 0x03#8, 0x06#8, 0x0F#8, 0x1B#8] := by decide

/-- UnescFeedsOneByte: each of its three cases. -/
theorem witness_unesc :
    ({ State.reset with unescPend := true } : State).unescPend = true ∧ State.reset.unescPend = false ∧
    (withArgs 0x1B 0 0).argA.setWidth 8 = State.reset.cfg.escIntro ∧
    (withArgs 0x41 0 0).argA.setWidth 8 ≠ State.reset.cfg.escIntro := by decide

/-- UnescapeInvertsEscapeUnderW1, with W1 and without it; FieldRoundTrip. -/
theorem witness_w1 :
    State.reset.cfg.escIntro ∈ State.reset.cfg.ctrl ∧ State.reset.unescPend = false ∧
    Config.sourceLiteral.escIntro ∉ (State.resetWith Config.sourceLiteral).cfg.ctrl ∧
    (State.resetWith Config.sourceLiteral).unescPend = false := by decide

theorem witness_escapedPayload :
    Config.standard.w2 = true ∧ 0x1B#8 ∈ escAll Config.standard [0x02, 0x41] ∧
    0x1B#8 ∈ Config.standard.ctrl := by decide

/-- Enc16EncodesOrRefusesRange: the ends of int16 and the first value outside at each end. -/
theorem witness_enc16 :
    ((withArgs (-32768) 0 0).argA.toInt = -32768 ∧ (withArgs 32767 0 0).argA.toInt = 32767) ∧
    ((withArgs (-32769) 0 0).argA.toInt < -32768 ∧ 32767 < (withArgs 32768 0 0).argA.toInt) := by decide

/-- What `loaded` holds. -/
theorem loaded_holds : (loaded [0x1B, 0x83, 0xFF, 0x1B]).Holds ([0x1B, 0x83] ++ [0xFF] ++ [0x1B]) :=
  ⟨rfl, fun i h => match i, h with
    | 0, _ | 1, _ | 2, _ | 3, _ => rfl⟩

/-- Dec16DecodesFieldOrReports, first clause. -/
theorem witness_dec16 :
    WireByte Config.standard 0x03 [0x1B, 0x83] ∧ WireByte Config.standard 0xFF [0xFF] ∧
    (loaded [0x1B, 0x83, 0xFF, 0x1B]).Holds ([0x1B, 0x83] ++ [0xFF] ++ [0x1B]) :=
  ⟨.pair 0x83, .plain 0xFF (by decide), loaded_holds⟩

/-- Dec16DecodesFieldOrReports, second clause: the introducer is the last byte, and no byte at all. -/
theorem witness_dec16_short :
    ((loaded [0x1B]).Holds [0x1B] ∧
      ¬ ∃ (lo hi : Byte) (wireLo wireHi tail : List Byte), WireByte Config.standard lo wireLo ∧
        WireByte Config.standard hi wireHi ∧ [0x1B#8] = wireLo ++ wireHi ++ tail) ∧
    ((loaded []).Holds [] ∧
      ¬ ∃ (lo hi : Byte) (wireLo wireHi tail : List Byte), WireByte Config.standard lo wireLo ∧
        WireByte Config.standard hi wireHi ∧ [] = wireLo ++ wireHi ++ tail) := by
  refine ⟨⟨⟨rfl, fun i h => match i, h with | 0, _ => rfl⟩, ?_⟩, ⟨rfl, fun i h => absurd h (by simp)⟩, ?_⟩ <;>
  · rintro ⟨lo, hi, wl, wh, tail, hl, hh, h⟩
    cases hl <;> cases hh <;> simp at h

/-- FieldRoundTrip: a value, and a state that holds its wire bytes. -/
theorem witness_fieldRoundTrip :
    (-32768 : Int) ≤ -253 ∧ (-253 : Int) ≤ 32767 ∧
    (∃ t, exec .enc16 { State.reset with argA := BitVec.ofInt 32 (-253) } = .next t ∧ t.out = [0x1B, 0x83, 0xFF]) ∧
    (loaded [0x1B, 0x83, 0xFF]).cfg = State.reset.cfg ∧
    (loaded [0x1B, 0x83, 0xFF]).Holds [0x1B, 0x83, 0xFF] :=
  ⟨by decide, by decide, ⟨_, rfl, by decide⟩, rfl, rfl, fun i h => match i, h with | 0, _ | 1, _ | 2, _ => rfl⟩

theorem witness_chkRd :
    ({ State.reset with accN := true, acc := 0x35 } : State).accN = true ∧ State.reset.accN = false := by decide

theorem witness_chkSeq :
    (loaded [0x33, 0x10]).Holds [0x33, 0x10] ∧ (loaded []).Holds [] :=
  ⟨⟨rfl, fun i h => match i, h with | 0, _ | 1, _ => rfl⟩, rfl, fun i h => absurd h (by simp)⟩

/-- StreamedChecksumIgnoresOrder, SequenceChecksumIgnoresOrder: program P2 of 95_test_vectors.md, in part. -/
theorem witness_checksumOrder :
    ([0x33#8, 0x10#8] : List Byte) ≠ [] ∧ ([0x33#8, 0x10#8] : List Byte).length ≤ State.reset.cfg.inMax ∧
    ([0x33#8, 0x10#8] : List Byte).Perm [0x10#8, 0x33#8] ∧
    ({ State.reset with
      pending := programEvents 0 [.op .chkClr [], .op .chkAdd [0x33], .op .chkAdd [0x10], .op .chkRd []] } :
        State).pending =
      programEvents State.reset.cfg.base ([.op .chkClr []] ++
        ([0x33#8, 0x10#8] : List Byte).map (fun b => .op .chkAdd [(b.toNat : Int)]) ++ [.op .chkRd []]) := by
  decide

/-- FrmJogBuildsFrameOrReports: every clause at the ends of its ranges. -/
theorem witness_frmJog :
    ((withArgs 0x0F (-32768) 32767).argA >>> 4 = 0 ∧ -32768 ≤ (withArgs 0x0F (-32768) 32767).argB.toInt ∧
      (withArgs 0x0F (-32768) 32767).argC.toInt ≤ 32767) ∧
    (withArgs 0x10 0 0).argA >>> 4 ≠ 0 ∧
    ((withArgs 0x0F 32768 0).argA >>> 4 = 0 ∧ 32767 < (withArgs 0x0F 32768 0).argB.toInt) ∧
    ((withArgs 0 32767 (-32769)).argB.toInt ≤ 32767 ∧ (withArgs 0 32767 (-32769)).argC.toInt < -32768) := by
  decide

/-- FrmAbsBuildsFrameOrReports: every clause at the ends of its ranges. -/
theorem witness_frmAbs :
    (-3600 ≤ (withArgs (-3600) 1800 0).argA.toInt ∧ (withArgs (-3600) 1800 0).argB.toInt ≤ 1800) ∧
    (3600 < (withArgs 3601 0 0).argA.toInt ∧ (withArgs (-3601) 0 0).argA.toInt < -3600) ∧
    ((withArgs 3600 1801 0).argA.toInt ≤ 3600 ∧ 1800 < (withArgs 3600 1801 0).argB.toInt ∧
      (withArgs 3600 (-1801) 0).argB.toInt < -1800) := by decide

/-- FrmDeltaBuildsFrameOrReports: every clause at the ends of its ranges. -/
theorem witness_frmDelta :
    (-32768 ≤ (withArgs (-32768) 32767 0).argA.toInt ∧ (withArgs (-32768) 32767 0).argB.toInt ≤ 32767) ∧
    (32767 < (withArgs 32768 0 0).argA.toInt ∧ (withArgs (-32769) 0 0).argA.toInt < -32768) ∧
    ((withArgs 32767 32768 0).argA.toInt ≤ 32767 ∧ 32767 < (withArgs 32767 32768 0).argB.toInt) := by decide

theorem witness_payloadFree :
    (Instr.frmSync, 0x00000016#32, 0x31#8) ∈ [(Instr.frmZero, 0x00000014#32, 0x35#8),
      (.frmHome, 0x00000015#32, 0x36#8), (.frmSync, 0x00000016#32, 0x31#8)] := by decide

/-- FrmStopBuildsFrame: its last clause. -/
theorem witness_stopIsJog :
    (withArgs 4 0 0).argA = 4 ∧ (withArgs 4 0 0).argB = 0 ∧ (withArgs 4 0 0).argC = 0 := by decide

/-- BuiltFrameChecksumCancels, FrameLengthsBounded, FailedBuildSendsNothing: the longest frame, the
shortest, one with an escaped checksum, and a failed build. -/
theorem witness_builtFrames :
    (frameCommand Config.standard .frmJog = some 0x31 ∧
      ∃ t, exec .frmJog (withArgs 0x0F 515 515) = .next t ∧ t.err = .none ∧ t.outLen = 14) ∧
    (∃ t, exec .frmZero State.reset = .next t ∧ t.err = .none ∧ t.outLen = 4) ∧
    (∃ t, exec .frmAbs (withArgs 2 3 0) = .next t ∧ t.err = .none ∧ t.outLen = 10) ∧
    (∃ t, exec .frmAbs { withArgs 48 0 0 with cfg := { Config.standard with escChk := true } } = .next t ∧
      t.err = .none ∧ t.res.setWidth 8 ∈ Config.standard.ctrl ∧ t.outLen = 9) ∧
    (Instr.frmAbs ∈ buildingOps ∧ ∃ t, exec .frmAbs (withArgs 3601 0 0) = .next t ∧ t.err ≠ .none) :=
  ⟨⟨rfl, _, rfl, by decide, by decide⟩, ⟨_, rfl, by decide, by decide⟩, ⟨_, rfl, by decide, by decide⟩,
    ⟨_, rfl, by decide, by decide, by decide⟩, by decide, _, rfl, by decide⟩

theorem witness_rspParse : 9 ≤ (loaded (List.replicate 9 0x0F)).inLen.toNat ∧
    (loaded (List.replicate 8 0x0F)).inLen.toNat < 9 := by decide

/-- CondCountIsPopcount. -/
theorem witness_condCount :
    Instr.flgDecode ∈ [Instr.rspParse, .flgDecode] ∧
    ∃ t, exec .flgDecode { State.reset with argA := 0x00FFFFFF } = .next t ∧ t.condN = 24 :=
  ⟨by decide, _, rfl, by decide⟩

/-- ClockwiseSoftLimitIsNamed: L1-7, and the same PanStatus with other status bits set. -/
theorem witness_clockwiseSoftLimit :
    someNames.wf = true ∧
    9 ≤ (loaded [0x06, 0x33, 0x10, 0x20, 0x80, 0x00, 0x00, 0x00, 0x03]).inLen.toNat ∧
    (loaded [0x06, 0x33, 0x10, 0x20, 0x80, 0x00, 0x00, 0x00, 0x03]).inByte 4 = 0x80#8 ∧
    (loaded [0x06, 0x33, 0x10, 0x20, 0x80, 0x00, 0x00, 0x00, 0x03]).inByte 5 = 0#8 ∧
    (loaded [0x06, 0x33, 0x10, 0x20, 0x80, 0x00, 0x00, 0x00, 0x03]).inByte 6 = 0#8 ∧
    9 ≤ (loaded [0x06, 0x33, 0x10, 0x20, 0x80, 0xFF, 0x01, 0x00, 0x03]).inLen.toNat ∧
    (loaded [0x06, 0x33, 0x10, 0x20, 0x80, 0xFF, 0x01, 0x00, 0x03]).inByte 4 = 0x80#8 :=
  ⟨by decide, by decide, rfl, rfl, rfl, by decide, rfl⟩

/-- LoadedResponseIsParsed: a response in two chunks, and one of eight bytes. -/
theorem witness_loadedResponse :
    ({ State.reset with
      pending := programEvents 0 (responseStatements Config.standard [[6, 0x33, 0x10, 0x20], [0x80, 0, 0, 0, 3]]) } :
        State).pending =
      programEvents State.reset.cfg.base
        (responseStatements State.reset.cfg [[6, 0x33, 0x10, 0x20], [0x80, 0, 0, 0, 3]]) ∧
    ([[6, 0x33, 0x10, 0x20], [0x80, 0, 0, 0, 3]] : List (List Byte)).flatten =
      6 :: 0x33 :: 0x10 :: 0x20 :: 0x80 :: 0 :: 0 :: 0 :: 3 :: [] ∧
    ([[6, 0x33, 0x10, 0x20], [0x80, 0, 0, 0]] : List (List Byte)).flatten.length < 9 := by decide

/-- ErrorKindsByOperation, ErrorsArePrecise, ResultRegistersWrittenOnlyByTheirOperations,
StickyRecordsEveryError: one operation for each kind of error. -/
theorem witness_errors :
    (∃ t, exec .frmDelta (withArgs 32768 0 0) = .next t ∧ t.err = .rangeError ∧ t.errArg ≠ .none) ∧
    (∃ t, exec .chkRd State.reset = .next t ∧ t.err = .invalidArgument ∧ t.err ≠ .none) ∧
    (∃ t, exec .rspParse State.reset = .next t ∧ t.err = .malformedResponse ∧ t.err ≠ .none) :=
  ⟨⟨_, rfl, by decide, by decide⟩, ⟨_, rfl, by decide, by decide⟩, ⟨_, rfl, by decide, by decide⟩⟩

/-- StickyLastsFromErrorToClear: the host's write, the reset, and an operation that raises. -/
theorem witness_stickyCleared :
    (∃ t, step (facing { State.reset with errSticky := true } (.write 32 0x014 0x100)) = .next t ∧
      t.errSticky = false) ∧
    (∃ t, step (facing { State.reset with errSticky := true } .reset) = .next t ∧ t.errSticky = false) ∧
    (∃ t, step (facing State.reset (.write 32 0 0xA)) = .next t ∧ t.errSticky = true) :=
  ⟨⟨_, rfl, by decide⟩, ⟨_, rfl, by decide⟩, _, rfl, by decide⟩

/-- UnescPendChangedOnlyByUnescaper: UNESC, UNESC_RST and the reset. -/
theorem witness_unescPendChanged :
    (∃ t, step (facing (withArgs 0x1B 0 0) (.write 32 0 0x2)) = .next t ∧ t.unescPend ≠ false) ∧
    (∃ t, step (facing { State.reset with unescPend := true } (.write 32 0 0x3)) = .next t ∧
      t.unescPend ≠ true) ∧
    (∃ t, step (facing { State.reset with unescPend := true } .reset) = .next t ∧ t.unescPend ≠ true) :=
  ⟨⟨_, rfl, by decide⟩, ⟨_, rfl, by decide⟩, _, rfl, by decide⟩

/-- AccumulatorChangedOnlyByItsOperations: CHK_ADD, CHK_CLR and the reset. -/
theorem witness_accumulatorChanged :
    (∃ t, step (facing (withArgs 0x35 0 0) (.write 32 0 0x9)) = .next t ∧ t.acc ≠ 0 ∧ t.accN ≠ false) ∧
    (∃ t, step (facing { State.reset with accN := true } (.write 32 0 0x8)) = .next t ∧ t.accN ≠ true) ∧
    (∃ t, step (facing { State.reset with accN := true } .reset) = .next t ∧ t.accN ≠ true) :=
  ⟨⟨_, rfl, by decide, by decide⟩, ⟨_, rfl, by decide⟩, _, rfl, by decide⟩

/-- StatementRunsOperation: `FRM_JOG 2, 515, -253` of program P4 and `FRM_SYNC` of program P1. -/
theorem witness_statement :
    ({ State.reset with pending := [.write 32 0x004 0x2, .write 32 0x008 0x203, .write 32 0x00C 0xFFFFFF03,
      .write 32 0x000 0x10] } : State).pending =
      (Stmt.op .frmJog [2, 515, -253]).events State.reset.cfg.base ++ [] ∧
    ([2, 515, -253] : List Int).length ≤ 3 ∧
    (facing State.reset (.write 32 0x000 0x16)).pending =
      (Stmt.op .frmSync []).events State.reset.cfg.base ++ [] := by decide

end Sys2Proof.Tests
end

namespace Sys2Proof.Machine

/-! ### W2: no marker inside an escaped payload -/

/-- R12, W2: the second byte of an escape pair is no control byte. -/
theorem xorMask_not_mem_ctrl_of_w2 {c : Config} (hw2 : c.w2 = true) {x : Byte} (hx : x ∈ c.ctrl) :
    x ^^^ xorMask ∉ c.ctrl :=
  of_decide_eq_true (List.all_eq_true.mp hw2 x hx)

/-- R16, R308: under W2 the only control byte in the wire form of one logical byte is the introducer:
a plain byte is no control byte, and neither is the second byte of a pair. -/
theorem eq_escIntro_of_mem_esc_of_mem_ctrl {c : Config} (hw2 : c.w2 = true) {x b : Byte}
    (hb : b ∈ esc c x) (hctrl : b ∈ c.ctrl) : b = c.escIntro := by
  by_cases hx : x ∈ c.ctrl
  · rw [esc_of_mem hx, List.mem_pair] at hb
    obtain hintro | hsecond := hb
    · exact hintro
    · exact absurd (hsecond ▸ hctrl) (xorMask_not_mem_ctrl_of_w2 hw2 hx)
  · rw [esc_of_not_mem hx, List.mem_singleton] at hb
    exact absurd (hb ▸ hctrl) hx

/-- Settles O22: every byte of an escaped payload stands in the wire form of one of its logical bytes. -/
theorem escapedPayloadHidesMarkers : Obligations.EscapedPayloadHidesMarkers := by
  intro c payload b hw2 hb hctrl
  obtain ⟨x, -, hbx⟩ : ∃ x ∈ payload, b ∈ esc c x := List.mem_flatMap.mp hb
  exact eq_escIntro_of_mem_esc_of_mem_ctrl hw2 hbx hctrl

end Sys2Proof.Machine

namespace Sys2Proof.Machine

/-! ### The invariant, update by update

Each update of the state keeps the invariant; where the update sets a field that the invariant speaks of,
the hypothesis says what the new value must satisfy. -/

section Updates

variable {s : State}

theorem State.Inv.setRes (h : s.Inv) (v : Word) : (s.setRes v).Inv := { h with }

theorem State.Inv.setRes2 (h : s.Inv) (v : Word) : (s.setRes2 v).Inv := { h with }

theorem State.Inv.setPend (h : s.Inv) (p : Bool) : (s.setPend p).Inv := { h with }

theorem State.Inv.setRsp (h : s.Inv) (r : Response) : (s.setRsp r).Inv := { h with }

theorem State.Inv.setPending (h : s.Inv) (es : List BusEvent) : (s.setPending es).Inv := { h with }

theorem State.Inv.setLastRead (h : s.Inv) (v : Word) : (s.setLastRead v).Inv := { h with }

theorem State.Inv.tick (h : s.Inv) : s.tick.Inv := { h with }

theorem State.Inv.setCmdLast (h : s.Inv) (w : Word) : (s.setCmdLast w).Inv := { h with }

theorem State.Inv.setArgA (h : s.Inv) (v : Word) : (s.setArgA v).Inv := { h with }

theorem State.Inv.setArgB (h : s.Inv) (v : Word) : (s.setArgB v).Inv := { h with }

theorem State.Inv.setArgC (h : s.Inv) (v : Word) : (s.setArgC v).Inv := { h with }

/-- R710: a successful end blames no operand. -/
theorem State.Inv.done (h : s.Inv) : s.done.Inv := { h with argOfError := fun _ => rfl }

/-- R710: an error may blame any operand. -/
theorem State.Inv.raise (h : s.Inv) {e : ErrKind} (he : e ≠ .none) (arg : ErrArg) :
    (s.raise e arg).Inv :=
  { h with argOfError := fun hnone => absurd hnone he }

/-- R113: an accumulator marked empty must be written 0. -/
theorem State.Inv.setAcc (h : s.Inv) {a : Byte} {n : Bool} (hempty : n = false → a = 0) :
    (s.setAcc a n).Inv :=
  { h with accEmpty := hempty }

/-- R12, W4: what an accepted configuration says of OUT_MAX. -/
theorem outMax_of_accepted {c : Config} (h : c.accepted = true) :
    (if c.escChk then 15 else 14) ≤ c.outMax := by
  simp only [Config.accepted, Config.w4, Bool.and_eq_true, decide_eq_true_eq] at h
  exact h.1.2

/-- R12, W5: what an accepted configuration says of IN_MAX. -/
theorem inMax_le_of_accepted {c : Config} (h : c.accepted = true) : c.inMax ≤ 256 := by
  simp only [Config.accepted, Config.w5, Bool.and_eq_true, decide_eq_true_eq] at h
  exact h.2.2

/-- R111, W4: no more bytes than the longest frame has fit OUT, and OUT_LEN counts them. -/
theorem State.Inv.setOut (h : s.Inv) {bs : List Byte}
    (hlen : bs.length ≤ if s.cfg.escChk then 15 else 14) : (s.setOut bs).Inv := by
  have hmax : bs.length ≤ s.cfg.outMax := hlen.trans (outMax_of_accepted h.accepted)
  have hcount : bs.length = (BitVec.ofNat 5 bs.length).toNat := by
    have : bs.length < 2 ^ 5 := by split at hlen <;> omega
    rw [BitVec.toNat_ofNat, Nat.mod_eq_of_lt this]
  exact { h with outCounted := hcount, outBounded := hcount ▸ hmax }

/-- R112, R620: decoded flags come with the codes of their set bits, at most 24 of them. -/
theorem State.Inv.decodeFlags (h : s.Inv) (p t g : Byte) : (s.decodeFlags p t g).Inv := by
  have hle : (condCodes p t g).length ≤ 24 := condCodes_length_le p t g
  have hcount : (condCodes p t g).length = (BitVec.ofNat 5 (condCodes p t g).length).toNat := by
    rw [BitVec.toNat_ofNat, Nat.mod_eq_of_lt (by omega)]
  exact { h with
    condCounted := hcount
    condBounded := hcount ▸ hle
    condOfFlags := by simp }

/-- R601: FLAGS and COND cleared are the decoded flags of three zero bytes. -/
theorem State.setCond_zero (s : State) : s.setCond 0 [] = s.decodeFlags 0 0 0 := rfl

/-- R501: a failed build leaves OUT empty. -/
theorem State.Inv.failBuild (h : s.Inv) {e : ErrKind} (he : e ≠ .none) (arg : ErrArg) :
    (s.failBuild e arg).Inv :=
  ((h.setOut (Nat.zero_le _)).setRes 0).raise he arg

/-- R307, W4: a frame with at most five payload bytes fits OUT. -/
theorem State.Inv.build (h : s.Inv) (cmd : Byte) {p : List Byte} (hp : p.length ≤ 5) :
    (s.build cmd p).Inv := by
  have hframe := (frameBytes_length_bounds s.cfg cmd p).2
  have hlen : (frameBytes s.cfg cmd p).length ≤ if s.cfg.escChk then 15 else 14 := by
    by_cases hc : s.cfg.escChk = true
    · rw [if_pos hc]
      split at hframe <;> omega
    · rw [if_neg hc]
      rw [if_neg fun hboth => hc hboth.1] at hframe
      omega
  exact ((h.setOut hlen).setRes _).done

/-- R110: IN_LEN is cut to IN_MAX, which fits its nine bits. -/
theorem State.setInLen_toNat (h : s.Inv) (v : Word) :
    (s.setInLen v).inLen.toNat = min v.toNat s.cfg.inMax := by
  have hmax : s.cfg.inMax ≤ 256 := inMax_le_of_accepted h.accepted
  rw [State.setInLen_inLen, BitVec.toNat_ofNat, Nat.mod_eq_of_lt (by omega)]

theorem State.Inv.setInLen (h : s.Inv) (v : Word) : (s.setInLen v).Inv :=
  { h with inLenBounded := (State.setInLen_toNat h v).trans_le (Nat.min_le_right _ _) }

/-- R106: a write to STATUS touches ERR_STICKY at most. -/
theorem State.Inv.writeStatus (h : s.Inv) (v : Word) : (s.writeStatus v).Inv := by
  unfold State.writeStatus
  split
  · exact { h with }
  · exact h

/-- R110: one IN byte written, or ignored at and above IN_MAX. -/
theorem State.Inv.writeIn (h : s.Inv) (i : Nat) (b : Byte) : (s.writeIn i b).Inv := by
  unfold State.writeIn
  split
  next hi =>
    exact { h with
      inCanonical := Memory.wf_write i b h.inCanonical
      inBounded := Memory.bounded_write b hi h.inBounded }
  next => exact h

theorem State.Inv.writeInWord (h : s.Inv) (k : Nat) (v : Word) : (s.writeInWord k v).Inv :=
  (((h.writeIn _ _).writeIn _ _).writeIn _ _).writeIn _ _

/-- R201: a host write to any register other than CMD. -/
theorem State.Inv.writeRegister (h : s.Inv) (off : Nat) (v : Word) : (s.writeRegister off v).Inv := by
  obtain e | e | e | e | ⟨-, e⟩ | e | e := s.writeRegister_cases off v <;> rw [e]
  · exact h.setArgA v
  · exact h.setArgB v
  · exact h.setArgC v
  · exact h.setInLen v
  · exact h.writeStatus v
  · exact h.writeInWord _ v
  · exact h

end Updates

/-! ### The invariant at reset -/

/-- R116: the reset state has empty buffers, so only the parameters have to be accepted. -/
theorem State.inv_resetWith {c : Config} (hc : c.accepted = true) : (State.resetWith c).Inv where
  accepted := hc
  inCanonical := Memory.wf_reset c
  inBounded := List.forall_mem_nil _
  inLenBounded := Nat.zero_le _
  outCounted := rfl
  outBounded := Nat.zero_le _
  condCounted := rfl
  condBounded := Nat.zero_le _
  condOfFlags := show [] = condCodes (BitVec.extractLsb' 0 8 0#24) (BitVec.extractLsb' 8 8 0#24)
    (BitVec.extractLsb' 16 8 0#24) by decide
  accEmpty := fun _ => rfl
  argOfError := fun _ => rfl

/-- R800: the external reset of an accepted configuration. -/
theorem State.Inv.externalReset {s : State} (h : s.Inv) : s.externalReset.Inv :=
  { State.inv_resetWith h.accepted with }

/-- Settles O16: the default parameters are accepted, too. -/
theorem resetSatisfiesInvariant : Obligations.ResetSatisfiesInvariant :=
  ⟨State.inv_resetWith (by decide), fun _ hc => State.inv_resetWith hc⟩

/-! ### Every step keeps the invariant -/

/-- Every operation keeps the invariant: what it puts into OUT is no longer than the longest frame, and
what it puts into COND are the codes of FLAGS. -/
theorem exec_keeps_inv {s t : State} {i : Instr} (h : s.Inv) (he : exec i s = .next t) : t.Inv := by
  rcases exec_cases he with ⟨-, b, rfl⟩ | ⟨-, v, n, p, rfl⟩ | ⟨-, rfl⟩ | ⟨-, v, w, rfl⟩ |
    ⟨-, arg, rfl⟩ | ⟨-, rfl⟩ | ⟨-, v, n, rfl⟩ | ⟨-, rfl⟩ | ⟨-, rfl⟩ | ⟨-, x, rfl⟩ | ⟨-, v, rfl⟩ |
    ⟨-, rfl⟩ | ⟨cmd, p, rfl, hframe⟩ | ⟨-, r, p, q, g, rfl⟩ | ⟨-, rfl⟩ | ⟨-, p, q, g, rfl⟩
  · -- ESC: at most two bytes
    have hlen := (esc_length_bounds s.cfg b).2
    exact (h.setOut (by split <;> omega)).done
  · exact (((h.setRes v).setRes2 n).setPend p).done
  · exact (h.setPend false).done
  · -- ENC16: two logical bytes, at most four on the wire
    have hlen : (escAll s.cfg (le16 v)).length ≤ 4 := (escAll_length_bounds s.cfg (le16 v)).2
    exact ((h.setOut (by split <;> omega)).setRes w).done
  · exact h.failBuild (by decide) arg
  · exact h.failBuild (by decide) .a
  · exact ((h.setRes v).setRes2 n).done
  · exact ((h.setRes 0).setRes2 0).raise (by decide) .none
  · exact (h.setAcc fun _ => rfl).done
  · exact (h.setAcc (by simp)).done
  · exact (h.setRes v).done
  · exact (h.setRes 0).raise (by decide) .none
  · -- a frame: its payload has five, four or no bytes
    have hp : p.length ≤ 5 := by
      rcases hframe with ⟨-, -, hp⟩ | ⟨-, -, hp⟩ | ⟨-, -, hp⟩ | ⟨-, -, hp⟩ | ⟨-, -, rfl⟩ |
        ⟨-, -, rfl⟩ | ⟨-, -, rfl⟩ <;> simp [*]
    exact h.build cmd hp
  · exact ((h.setRsp r).decodeFlags p q g).done
  · rw [State.setCond_zero]
    exact ((h.setRsp _).decodeFlags 0 0 0).raise (by decide) .none
  · exact (h.decodeFlags p q g).done

/-- A write to CMD keeps the invariant, whether or not the word is an operation. -/
theorem State.Inv.performCommand {s t : State} {w : Word} (h : s.Inv)
    (ht : s.performCommand w = .next t) : t.Inv := by
  obtain ⟨i, -, hrun⟩ | ⟨-, hillegal⟩ := s.performCommand_cases w
  · exact exec_keeps_inv (h.setCmdLast w) (hrun ▸ ht)
  · rw [hillegal] at ht
    injection ht with ht
    exact ht ▸ (h.setCmdLast w).raise (by decide) .none

/-- Settles O17, by the cases of a step. -/
theorem everyStepKeepsInvariant : Obligations.EveryStepKeepsInvariant := by
  intro s t h hstep
  obtain ⟨-, ⟨-, rfl⟩ | ⟨e, rest, -, hevent⟩⟩ := step_cases hstep
  · exact h
  have hrest : (s.setPending rest).Inv := h.setPending rest
  obtain ⟨-, rfl⟩ | ⟨off, -, -, -, rfl⟩ | ⟨off, v, -, -, -, -, rfl⟩ | ⟨w, -, ht⟩ := hevent
  · exact hrest.externalReset
  · exact hrest.setLastRead _
  · exact hrest.tick.writeRegister off v
  · exact hrest.tick.performCommand ht

/-! ### What a host write changes -/

/-- R203: a write to one byte of IN changes IN at most. -/
theorem State.writeIn_eq (s : State) (i : Nat) (b : Byte) :
    s.writeIn i b = { s with inBuf := (s.writeIn i b).inBuf } := by
  unfold State.writeIn
  split <;> rfl

/-- R203: a write to a word of IN changes IN at most. -/
theorem State.writeInWord_eq (s : State) (k : Nat) (v : Word) :
    s.writeInWord k v = { s with inBuf := (s.writeInWord k v).inBuf } := by
  have chain {t : State} (i : Nat) (b : Byte) (ht : t = { s with inBuf := t.inBuf }) :
      t.writeIn i b = { s with inBuf := (t.writeIn i b).inBuf } := by
    rw [State.writeIn_eq t i b, ht]
  exact chain _ _ (chain _ _ (chain _ _ (chain _ _ rfl)))

/-- Settles O11, register by register. -/
theorem hostWritesOperandsAndBuffer : Obligations.HostWritesOperandsAndBuffer := by
  intro s off v rest h hp hoff halign
  have hwrite (h0 : off ≠ 0) : step s = .next ((s.setPending rest).tick.writeRegister off v) :=
    step_write h.accepted hp hoff halign h0
  refine ⟨?argA, ?argB, ?argC, ?inLen, ?inWord⟩
  case argA =>
    rintro rfl
    exact hwrite (by decide)
  case argB =>
    rintro rfl
    exact hwrite (by decide)
  case argC =>
    rintro rfl
    exact hwrite (by decide)
  case inLen =>
    rintro rfl
    exact ⟨(s.setInLen v).inLen, State.setInLen_toNat h v, hwrite (by decide)⟩
  case inWord =>
    intro hin
    obtain ⟨k, rfl⟩ : ∃ k, off = 0x100 + 4 * k := ⟨(off - 0x100) / 4, by omega⟩
    refine ⟨((s.setPending rest).tick.writeInWord k v).inBuf, ?_, ?_, ?_⟩
    · rw [hwrite (by omega), State.writeRegister_inWord _ v (by omega), State.writeInWord_eq]
      rfl
    · intro i j hj hi hmax
      obtain rfl : i = 4 * k + j := by omega
      rw [State.read_writeInWord, if_pos ⟨hmax, by omega, by omega⟩, Nat.add_sub_cancel_left]
      rfl
    · intro i hother
      rw [State.read_writeInWord, if_neg]
      · rfl
      · rintro ⟨hmax, hlo, hhi⟩
        simp only [State.tick_cfg, State.setPending_cfg] at hmax
        omega

/-- Settles O13: bit 8 decides between the two cases of a write to STATUS. -/
theorem statusWriteClearsOnlySticky : Obligations.StatusWriteClearsOnlySticky := by
  intro s v rest hc hp
  have hwrite : step s = .next ((s.setPending rest).tick.writeStatus v) :=
    step_write hc hp (by decide) (by decide) (by decide)
  constructor <;> intro hbit
  · rw [hwrite, State.writeStatus, if_pos hbit]
    rfl
  · rw [hwrite, State.writeStatus, if_neg (Bool.eq_false_iff.mp hbit)]
    rfl

/-! ### The parameters never change -/

/-- R101, R104, R110: no operation writes its inputs, the parameters or the model's own fields: each
update that `exec_cases` names leaves all of them as they were. -/
theorem exec_sameInputs {s t : State} {i : Instr} (h : exec i s = .next t) : SameInputs s t := by
  rcases exec_cases h with ⟨-, b, rfl⟩ | ⟨-, v, n, p, rfl⟩ | ⟨-, rfl⟩ | ⟨-, v, w, rfl⟩ |
    ⟨-, arg, rfl⟩ | ⟨-, rfl⟩ | ⟨-, v, n, rfl⟩ | ⟨-, rfl⟩ | ⟨-, rfl⟩ | ⟨-, x, rfl⟩ | ⟨-, v, rfl⟩ |
    ⟨-, rfl⟩ | ⟨cmd, p, rfl, -⟩ | ⟨-, r, p, q, g, rfl⟩ | ⟨-, rfl⟩ | ⟨-, p, q, g, rfl⟩ <;>
  constructor <;> simp [State.inByte]

/-- R116: no write to CMD changes the parameters. -/
theorem State.performCommand_cfg {s t : State} {w : Word} (h : s.performCommand w = .next t) :
    t.cfg = s.cfg := by
  obtain ⟨i, -, hrun⟩ | ⟨-, hillegal⟩ := s.performCommand_cases w
  · rw [hrun] at h
    exact (exec_sameInputs h).cfg
  · rw [hillegal] at h
    injection h with h
    exact h ▸ rfl

/-- R116: no write to another register changes the parameters. -/
theorem State.writeRegister_cfg (s : State) (off : Nat) (v : Word) :
    (s.writeRegister off v).cfg = s.cfg := by
  obtain e | e | e | e | ⟨-, e⟩ | e | e := s.writeRegister_cases off v <;> simp [e]

/-- R116: no step changes the parameters. -/
theorem step_cfg {s t : State} (h : step s = .next t) : t.cfg = s.cfg := by
  obtain ⟨-, ⟨-, rfl⟩ | ⟨e, rest, -, hevent⟩⟩ := step_cases h
  · rfl
  obtain ⟨-, rfl⟩ | ⟨off, -, -, -, rfl⟩ | ⟨off, v, -, -, -, -, rfl⟩ | ⟨w, -, ht⟩ := hevent
  · rfl
  · rfl
  · exact State.writeRegister_cfg _ off v
  · exact (State.performCommand_cfg ht :)

/-- Settles O14: the table of R116 is read off the reset state; OUT and COND have no specified byte. -/
theorem resetValuesAndFixedParameters : Obligations.ResetValuesAndFixedParameters :=
  ⟨fun _ _ => step_cfg, fun _ =>
    ⟨rfl, rfl, rfl, rfl, rfl, rfl, rfl, rfl, rfl, rfl, rfl, rfl, rfl, rfl, rfl, rfl, rfl, fun _ => rfl,
      fun _ => State.outLane_free (Nat.zero_le _), fun _ => State.condLane_free (Nat.zero_le _), rfl⟩⟩

end Sys2Proof.Machine

namespace Sys2Proof.Machine

/-! ### Which accesses stop, and which never do -/

/-- R202: a legal access is 32 bits wide, at BASE + a word-aligned offset of the window. -/
theorem AccessLegal.exists_offset {c : Config} {bits addr : Nat} (h : AccessLegal c bits addr) :
    bits = 32 ∧ ∃ off, addr = c.base + off ∧ off < 0x200 ∧ off % 4 = 0 := by
  obtain ⟨hbits, hlo, hhi, halign⟩ := h
  exact ⟨hbits, addr - c.base, by omega, by omega, halign⟩

/-- R200: an address below or above the window is outside, whatever the width. -/
theorem classifyAccess_outside {c : Config} {bits addr : Nat}
    (h : addr < c.base ∨ c.base + 0x200 ≤ addr) : classifyAccess c bits addr = .outside :=
  if_pos h

/-- R202: an access inside the window that is not 32 bits wide. -/
theorem classifyAccess_badWidth {c : Config} {bits addr : Nat} (hlo : c.base ≤ addr)
    (hhi : addr < c.base + 0x200) (hbits : bits ≠ 32) : classifyAccess c bits addr = .badWidth := by
  have hin : ¬(addr < c.base ∨ c.base + windowSize ≤ addr) := by
    simp only [windowSize]
    omega
  rw [classifyAccess, if_neg hin, if_pos hbits]

/-- R202: a 32-bit access inside the window at an offset that is no multiple of 4. -/
theorem classifyAccess_misaligned {c : Config} {addr : Nat} (hlo : c.base ≤ addr)
    (hhi : addr < c.base + 0x200) (halign : (addr - c.base) % 4 ≠ 0) :
    classifyAccess c 32 addr = .misaligned := by
  have hin : ¬(addr < c.base ∨ c.base + windowSize ≤ addr) := by
    simp only [windowSize]
    omega
  rw [classifyAccess, if_neg hin, if_neg (not_not.mpr rfl), if_pos halign]

/-- R200, R202: an access of a kind other than a register's stops the step, a read and a write alike. -/
theorem step_of_classifyAccess {s : State} {bits addr : Nat} {v : Word} {e : BusEvent}
    {rest : List BusEvent} (hc : s.cfg.accepted = true) (hp : s.pending = e :: rest)
    (he : e ∈ [BusEvent.read bits addr, .write bits addr v]) :
    (classifyAccess s.cfg bits addr = .outside → step s = .fault (.outsideWindow addr)) ∧
      (classifyAccess s.cfg bits addr = .badWidth → step s = .refused (.unsupportedWidth bits)) ∧
      (classifyAccess s.cfg bits addr = .misaligned →
        step s = .refused (.misalignedAccess addr)) := by
  rw [step_cons hc hp]
  obtain rfl | rfl : e = .read bits addr ∨ e = .write bits addr v := by simpa using he
  all_goals
    refine ⟨?_, ?_, ?_⟩ <;> intro hk <;> simp only [State.takeEvent, State.setPending_cfg, hk]

/-- Settles O7, by the kind of the access. -/
theorem illegalAccessStops : Obligations.IllegalAccessStops := by
  intro s bits addr v e rest hc hp he
  obtain ⟨houtside, hwidth, halign⟩ := step_of_classifyAccess hc hp he
  refine ⟨fun hlo hhi hbits => hwidth (classifyAccess_badWidth hlo hhi hbits), ?_,
    fun hout => houtside (classifyAccess_outside hout)⟩
  rintro hlo hhi rfl hmis
  exact halign (classifyAccess_misaligned hlo hhi hmis)

/-- R700: every operation answers a next state: each of its cases ends in one. -/
theorem exec_answers_next (i : Instr) (s : State) : ∃ t, exec i s = .next t := by
  cases i with
  | esc => exact ⟨_, exec_esc s⟩
  | unesc =>
    cases hpend : s.unescPend
    · by_cases hx : byteOperand s.argA = s.cfg.escIntro
      · exact ⟨_, exec_unesc_intro hpend hx⟩
      · exact ⟨_, exec_unesc_plain hpend hx⟩
    · exact ⟨_, exec_unesc_pair hpend⟩
  | unescRst => exact ⟨_, exec_unescRst s⟩
  | enc16 =>
    cases ha : inInt16 (s32 s.argA)
    · exact ⟨_, exec_enc16_range ha⟩
    · exact ⟨_, exec_enc16_ok ha⟩
  | dec16 =>
    cases hfield : takeField s.cfg s.inSeq with
    | none => exact ⟨_, exec_dec16_short hfield⟩
    | some r => exact ⟨_, exec_dec16_ok hfield⟩
  | chkClr => exact ⟨_, exec_chkClr s⟩
  | chkAdd => exact ⟨_, exec_chkAdd s⟩
  | chkRd =>
    cases hn : s.accN
    · exact ⟨_, exec_chkRd_empty hn⟩
    · exact ⟨_, exec_chkRd_ok hn⟩
  | chkSeq =>
    cases hseq : s.inSeq with
    | nil => exact ⟨_, exec_chkSeq_empty hseq⟩
    | cons x xs => exact ⟨_, exec_chkSeq_ok hseq⟩
  | frmJog =>
    cases ha : flagsLegal s.argA
    · exact ⟨_, exec_frmJog_flags ha⟩
    cases hb : inInt16 (s32 s.argB)
    · exact ⟨_, exec_frmJog_pan ha hb⟩
    cases hc : inInt16 (s32 s.argC)
    · exact ⟨_, exec_frmJog_tilt ha hb hc⟩
    · exact ⟨_, exec_frmJog_ok ha hb hc⟩
  | frmStop => exact ⟨_, exec_frmStop s⟩
  | frmAbs =>
    cases ha : within azLimit (s32 s.argA)
    · exact ⟨_, exec_frmAbs_azimuth ha⟩
    cases hb : within elLimit (s32 s.argB)
    · exact ⟨_, exec_frmAbs_elevation ha hb⟩
    · exact ⟨_, exec_frmAbs_ok ha hb⟩
  | frmDelta =>
    cases ha : inInt16 (s32 s.argA)
    · exact ⟨_, exec_frmDelta_azimuth ha⟩
    cases hb : inInt16 (s32 s.argB)
    · exact ⟨_, exec_frmDelta_elevation ha hb⟩
    · exact ⟨_, exec_frmDelta_ok ha hb⟩
  | frmZero => exact ⟨_, exec_frmZero s⟩
  | frmHome => exact ⟨_, exec_frmHome s⟩
  | frmSync => exact ⟨_, exec_frmSync s⟩
  | rspParse =>
    obtain hlen | hlen := Nat.lt_or_ge s.inLen.toNat 9
    · exact ⟨_, exec_rspParse_short hlen⟩
    · exact ⟨_, exec_rspParse_ok hlen⟩
  | flgDecode => exact ⟨_, exec_flgDecode s⟩

/-- R700, R705: a write to CMD answers a next state, also when the word is no operation. -/
theorem State.performCommand_answers_next (s : State) (w : Word) :
    ∃ t, s.performCommand w = .next t := by
  obtain ⟨i, -, hrun⟩ | ⟨-, hillegal⟩ := s.performCommand_cases w
  · rw [hrun]
    exact exec_answers_next i _
  · exact ⟨_, hillegal⟩

/-- Settles O6: the three kinds of event; a write is one to CMD or one to another register. -/
theorem legalAccessNeverStops : Obligations.LegalAccessNeverStops := by
  intro s e rest hc hp hlegal
  cases e with
  | reset => exact ⟨_, step_cons hc hp⟩
  | read bits addr =>
    obtain ⟨rfl, off, rfl, hoff, halign⟩ := AccessLegal.exists_offset hlegal
    exact ⟨_, step_read hc hp hoff halign⟩
  | write bits addr v =>
    obtain ⟨rfl, off, rfl, hoff, halign⟩ := AccessLegal.exists_offset hlegal
    by_cases hcmd : off = 0
    · subst hcmd
      obtain ⟨t, ht⟩ := (s.setPending rest).tick.performCommand_answers_next v
      exact ⟨t, (step_command hc hp).trans ht⟩
    · exact ⟨_, step_write hc hp hoff halign hcmd⟩

/-! ### Writes that are ignored -/

/-- R202: a write to a register that the host only reads, or to an offset of a gap of the map. -/
theorem State.writeRegister_readOnly (s : State) {off : Nat} (v : Word) (hlo : 0x018 ≤ off)
    (hhi : off < 0x100) : s.writeRegister off v = s := by
  unfold State.writeRegister
  repeat rw [if_neg (by omega)]

/-- Settles O12: the block takes the write and ignores it. -/
theorem readOnlyWritesAreIgnored : Obligations.ReadOnlyWritesAreIgnored := by
  intro s off v rest hc hp halign hlo hhi
  rw [step_write hc hp (by omega) halign (by omega), State.writeRegister_readOnly _ v hlo hhi]
  rfl

/-! ### Reads -/

/-- R204: the word a read returns depends neither on the accesses still to come nor on the word read
before. -/
theorem State.readRegister_congr (s : State) (es : List BusEvent) (r : Option Word) (off : Nat) :
    ({ s with pending := es, lastRead := r } : State).readRegister off = s.readRegister off := rfl

/-- R201, R204: a host read of a register changes the model's own fields only. -/
theorem step_read_frame {s : State} {off : Nat} {rest : List BusEvent} (hc : s.cfg.accepted = true)
    (hp : s.pending = .read 32 (s.cfg.base + off) :: rest) (hoff : off < 0x200)
    (halign : off % 4 = 0) :
    step s = .next { s with pending := rest, lastRead := some (s.readRegister off) } :=
  step_read hc hp hoff halign

/-- R204: after any legal reads, a read still returns the word of the state before them. -/
theorem run_reads {off : Nat} (hoff : off < 0x200) (halign : off % 4 = 0) (before : List Nat)
    (rest : List BusEvent) (s : State) (hc : s.cfg.accepted = true)
    (hbefore : ∀ a ∈ before, AccessLegal s.cfg 32 a)
    (hp : s.pending = before.map (BusEvent.read 32) ++ .read 32 (s.cfg.base + off) :: rest) :
    core.run (before.length + 1) s =
      .next { s with pending := rest, lastRead := some (s.readRegister off) } := by
  induction before generalizing s with
  | nil => exact run_succ (step_read_frame hc hp hoff halign)
  | cons a before ih =>
    obtain ⟨ha, hrest⟩ := List.forall_mem_cons.mp hbefore
    obtain ⟨-, offA, rfl, hoffA, halignA⟩ := ha.exists_offset
    have hrun := ih { s with
      pending := before.map (BusEvent.read 32) ++ .read 32 (s.cfg.base + off) :: rest
      lastRead := some (s.readRegister offA) } hc hrest rfl
    rw [State.readRegister_congr] at hrun
    exact (run_succ (step_read_frame hc hp hoffA halignA)).trans hrun

/-- Settles O8: the run is one of reads, the first of them the one that is repeated. -/
theorem readsHaveNoEffectAndRepeat : Obligations.ReadsHaveNoEffectAndRepeat := by
  intro s addr between rest hc haddr hbetween hp
  obtain ⟨-, off, rfl, hoff, halign⟩ := haddr.exists_offset
  exact ⟨s.readRegister off, step_read_frame hc hp hoff halign,
    run_reads hoff halign ((s.cfg.base + off) :: between) rest s hc
      (List.forall_mem_cons.mpr ⟨haddr, hbetween⟩) hp⟩

/-! ### The lanes of a packed buffer -/

/-- R203: word `k` of OUT. -/
theorem State.readRegister_outWord (s : State) {k : Nat} (h : k < 4) :
    s.readRegister (0x040 + 4 * k) = packedWord s.outLane k := by
  unfold State.readRegister
  repeat rw [if_neg (by omega)]
  rw [if_pos (by omega), show (0x040 + 4 * k - 0x040) / 4 = k by omega]

/-- R203: word `k` of COND. -/
theorem State.readRegister_condWord (s : State) {k : Nat} (h : k < 6) :
    s.readRegister (0x060 + 4 * k) = packedWord s.condLane k := by
  unfold State.readRegister
  repeat rw [if_neg (by omega)]
  rw [if_pos (by omega), show (0x060 + 4 * k - 0x060) / 4 = k by omega]

/-- R203: word `k` of IN. -/
theorem State.readRegister_inWord (s : State) {k : Nat} (h : k < 64) :
    s.readRegister (0x100 + 4 * k) = packedWord s.inLane k := by
  unfold State.readRegister
  repeat rw [if_neg (by omega)]
  rw [if_pos (by omega), show (0x100 + 4 * k - 0x100) / 4 = k by omega]

/-- R203: byte `i` of a buffer that begins at the word-aligned offset `first` stands in lane `i mod 4` of
word `i div 4`. -/
theorem exists_word_lane {first off i j : Nat} (hfirst : first % 4 = 0) (hoff : off % 4 = 0) (hj : j < 4)
    (hi : first + i = off + j) : ∃ k, off = first + 4 * k ∧ i = 4 * k + j :=
  ⟨i / 4, by omega, by omega⟩

section Lanes

variable {s : State} {off i j : Nat}

/-- R203: the lane of OUT byte `i`. -/
theorem State.laneByte_read_out (hoff : off % 4 = 0) (hj : j < 4) (hi : 0x040 + i = off + j)
    (hlt : i < 16) : laneByte (s.readRegister off) j = s.outLane i := by
  obtain ⟨k, rfl, rfl⟩ := exists_word_lane (by decide) hoff hj hi
  rw [State.readRegister_outWord s (by omega), laneByte_packedWord _ k hj]

/-- R203: the lane of COND byte `i`. -/
theorem State.laneByte_read_cond (hoff : off % 4 = 0) (hj : j < 4) (hi : 0x060 + i = off + j)
    (hlt : i < 24) : laneByte (s.readRegister off) j = s.condLane i := by
  obtain ⟨k, rfl, rfl⟩ := exists_word_lane (by decide) hoff hj hi
  rw [State.readRegister_condWord s (by omega), laneByte_packedWord _ k hj]

/-- R203: the lane of IN byte `i`. -/
theorem State.laneByte_read_in (hoff : off % 4 = 0) (hj : j < 4) (hi : 0x100 + i = off + j)
    (hlt : i < 256) : laneByte (s.readRegister off) j = s.inLane i := by
  obtain ⟨k, rfl, rfl⟩ := exists_word_lane (by decide) hoff hj hi
  rw [State.readRegister_inWord s (by omega), laneByte_packedWord _ k hj]

end Lanes

/-- R110: a byte that reads as written is one of the entries. -/
theorem Memory.mem_of_read {m : Memory} {i : Nat} {b : Byte} (h : m.read i = some b) :
    (i, b) ∈ m := by
  induction m with
  | nil => simp [Memory.read] at h
  | cons x m ih =>
    obtain ⟨k, c⟩ := x
    by_cases hk : i = k
    · obtain rfl : c = b := by simpa [Memory.read, hk] using h
      exact hk ▸ List.mem_cons_self
    · exact List.mem_cons_of_mem _ (ih (by simpa [Memory.read, hk] using h))

/-- R110, R203: a written byte of IN stands in its lane: only bytes below IN_MAX exist. -/
theorem State.Inv.inLane_written {s : State} (h : s.Inv) {i : Nat} {b : Byte}
    (hread : s.inBuf.read i = some b) : s.inLane i = b := by
  rw [State.inLane, if_pos (h.inBounded _ (Memory.mem_of_read hread)), State.inByte_written hread]

/-- R203: a lane of IN at or above IN_MAX is reserved. -/
theorem State.inLane_reserved {s : State} {i : Nat} (h : s.cfg.inMax ≤ i) : s.inLane i = 0 :=
  if_neg (Nat.not_lt.mpr h)

/-- Settles O10, buffer by buffer: which lane the byte stands in, then what that lane holds. -/
theorem bufferWordsPackBytes : Obligations.BufferWordsPackBytes := by
  intro s off j rest h hp hoff halign hj
  refine ⟨s.readRegister off, step_read_frame h.accepted hp hoff halign, ?out, ?cond, ?written,
    ?reserved⟩
  case out =>
    intro i hi hlt hlen
    exact (State.laneByte_read_out halign hj hi hlt).trans (State.outLane_of_lt hlen h.outCounted)
  case cond =>
    intro i hi hlen
    have hlt : i < 24 := by have := h.condCounted; have := h.condBounded; omega
    exact (State.laneByte_read_cond halign hj hi hlt).trans (State.condLane_of_lt hlen h.condCounted)
  case written =>
    intro i b hi hread
    exact (State.laneByte_read_in halign hj hi (by omega)).trans (h.inLane_written hread)
  case reserved =>
    intro i hi hmax
    exact (State.laneByte_read_in halign hj hi (by omega)).trans (State.inLane_reserved hmax)

/-! ### The register map -/

section Registers

variable (s : State)

@[simp] theorem State.readRegister_cmdLast : s.readRegister 0x000 = s.cmdLast := rfl
@[simp] theorem State.readRegister_argA : s.readRegister 0x004 = s.argA := rfl
@[simp] theorem State.readRegister_argB : s.readRegister 0x008 = s.argB := rfl
@[simp] theorem State.readRegister_argC : s.readRegister 0x00C = s.argC := rfl
@[simp] theorem State.readRegister_inLen : s.readRegister 0x010 = s.inLen.setWidth 32 := rfl
@[simp] theorem State.readRegister_status : s.readRegister 0x014 = s.statusWord := rfl
@[simp] theorem State.readRegister_res : s.readRegister 0x018 = s.res := rfl
@[simp] theorem State.readRegister_res2 : s.readRegister 0x01C = s.res2 := rfl
@[simp] theorem State.readRegister_outLen : s.readRegister 0x020 = s.outLen.setWidth 32 := rfl
@[simp] theorem State.readRegister_acc : s.readRegister 0x024 = s.acc.setWidth 32 := rfl
@[simp] theorem State.readRegister_flags : s.readRegister 0x028 = s.flags.setWidth 32 := rfl
@[simp] theorem State.readRegister_condN : s.readRegister 0x02C = s.condN.setWidth 32 := rfl
@[simp] theorem State.readRegister_rsp0 : s.readRegister 0x030 = s.rsp0 := rfl
@[simp] theorem State.readRegister_rsp1 : s.readRegister 0x034 = s.rsp1 := rfl
@[simp] theorem State.readRegister_rsp2 : s.readRegister 0x038 = s.rsp.last.setWidth 32 := rfl

end Registers

/-- R202: an offset the map does not list reads 0. -/
theorem State.readRegister_unlisted (s : State) {off : Nat}
    (h : off = 0x03C ∨ (0x050 ≤ off ∧ off < 0x060) ∨ (0x078 ≤ off ∧ off < 0x100)) :
    s.readRegister off = 0 := by
  unfold State.readRegister
  repeat rw [if_neg (by omega)]

/-- R106: STATUS bit by bit. -/
theorem State.getLsbD_statusWord (s : State) (i : Nat) :
    s.statusWord.getLsbD i =
      if i < 4 then s.err.code.getLsbD i
      else if i < 6 then s.errArg.code.getLsbD (i - 4)
      else if i = 8 then s.errSticky
      else if i = 9 then s.unescPend
      else if i = 10 then s.accN
      else false := by
  by_cases hi : i < 11
  · interval_cases i <;> simp [State.statusWord]
  · have herr : s.err.code.getLsbD i = false := BitVec.getLsbD_of_ge _ _ (by omega)
    have harg : s.errArg.code.getLsbD (i - 4) = false := BitVec.getLsbD_of_ge _ _ (by omega)
    have hsticky : ¬i - 8 = 0 := by omega
    have hpend : ¬i - 9 = 0 := by omega
    have haccN : ¬i - 10 = 0 := by omega
    have hfield : ¬i < 4 ∧ ¬i < 6 ∧ i ≠ 8 ∧ i ≠ 9 ∧ i ≠ 10 := by omega
    simp [State.statusWord, herr, harg, hsticky, hpend, haccN, hfield]

/-- R106: the fields of STATUS from bit 0 up; bits 7:6 and 31:11 read 0. -/
theorem State.statusWord_fields (s : State) :
    s.statusWord.extractLsb' 0 4 = s.err.code ∧ s.statusWord.extractLsb' 4 2 = s.errArg.code ∧
      s.statusWord.extractLsb' 6 2 = 0 ∧ s.statusWord.getLsbD 8 = s.errSticky ∧
      s.statusWord.getLsbD 9 = s.unescPend ∧ s.statusWord.getLsbD 10 = s.accN ∧
      s.statusWord >>> 11 = 0 := by
  refine ⟨?err, ?errArg, ?reserved, s.getLsbD_statusWord 8, s.getLsbD_statusWord 9,
    s.getLsbD_statusWord 10, ?upper⟩
  all_goals
    apply BitVec.eq_of_getLsbD_eq
    intro i hi
  case err => simp [State.getLsbD_statusWord, hi]
  case errArg => simp [State.getLsbD_statusWord, hi, show 4 + i < 6 by omega]
  case reserved | upper =>
    simp only [BitVec.getLsbD_extractLsb', BitVec.getLsbD_ushiftRight, State.getLsbD_statusWord]
    repeat rw [if_neg (by omega)]
    simp

/-- Settles O9, register by register: the whole words, the narrower registers, and the words with
lanes. -/
theorem registerMapReads : Obligations.RegisterMapReads := by
  intro s off rest hc hp hoff halign
  refine ⟨s.readRegister off, step_read_frame hc hp hoff halign, ?cmdLast, ?argA, ?argB, ?argC, ?inLen,
    ?status, ?res, ?res2, ?outLen, ?acc, ?flags, ?condN, ?rsp0, ?rsp1, ?rsp2, s.readRegister_unlisted⟩
  all_goals rintro rfl
  case cmdLast | argA | argB | argC | res | res2 => simp
  case inLen | outLen | acc | flags | condN | rsp2 =>
    simp [-BitVec.toNat_setWidth, BitVec.toNat_setWidth_of_le]
  case rsp0 =>
    rw [State.readRegister_rsp0]
    exact laneByte_wordOfBytes _ _ _ _
  case rsp1 =>
    rw [State.readRegister_rsp1]
    exact laneByte_wordOfBytes _ _ _ _
  case status =>
    simp only [State.readRegister_status]
    obtain ⟨herr, harg, hstatus⟩ := s.statusWord_fields
    refine ⟨?_, ?_, ?_, ?_, ?_, ?_, ?_, ?_, ?_, hstatus⟩ <;> intro h
    iterate 5 exact herr.trans (h ▸ rfl)
    iterate 4 exact harg.trans (h ▸ rfl)

end Sys2Proof.Machine

namespace Sys2Proof

/-! ### Operation words

Both directions of R301 come from one fact: a word decodes to an operation exactly when it is that
operation's word. -/

/-- R302: the code table read from either side. -/
theorem operationOf_eq_some_iff {op : Byte} {i : Instr} : operationOf op = some i ↔ op = opcode i := by
  constructor
  · intro h
    unfold operationOf at h
    split at h <;> cases h <;> rfl
  · rintro rfl
    cases i <;> rfl

/-- R302: the table lists every operation. -/
theorem mem_allOperations (i : Instr) : i ∈ Machine.allOperations := by
  cases i <;> decide

/-- R302: the assigned codes are those of the eighteen operations. -/
theorem exists_eq_opcode_iff (op : Byte) :
    (∃ i, op = opcode i) ↔ op ∈ Machine.allOperations.map opcode := by
  simp only [List.mem_map, mem_allOperations, true_and, eq_comm]

/-- R300: the word of an operation has its code in bits 7:0 and 0 in bits 31:8. -/
theorem eq_encode_iff {w : Word} {i : Instr} :
    w = encode i ↔ w.extractLsb' 8 24 = 0#24 ∧ w.extractLsb' 0 8 = opcode i := by
  have hcode : (opcode i).toNat < 2 ^ 8 := (opcode i).isLt
  have hword : w.toNat < 2 ^ 32 := w.isLt
  simp only [encode, ← BitVec.toNat_inj, BitVec.toNat_setWidth, BitVec.extractLsb'_toNat,
    BitVec.toNat_ofNat, Nat.shiftRight_eq_div_pow]
  omega

/-- R301: a word with a bit of 31:8 set is ILLEGAL. -/
theorem decode_upperBitsSet {w : Word} (h : w.extractLsb' 8 24 ≠ 0#24) :
    decode w = .error (.upperBitsSet w) :=
  if_pos h

/-- R301: the word of an assigned code. -/
theorem decode_assigned {w : Word} {i : Instr} (hupper : w.extractLsb' 8 24 = 0#24)
    (hcode : operationOf (w.extractLsb' 0 8) = some i) : decode w = .ok i := by
  rw [decode, if_neg (not_not.mpr hupper), hcode]

/-- R301, R304: a word of 31:8 clear with an unassigned code is ILLEGAL. -/
theorem decode_unassignedCode {w : Word} (hupper : w.extractLsb' 8 24 = 0#24)
    (hcode : operationOf (w.extractLsb' 0 8) = none) :
    decode w = .error (.unassignedCode (w.extractLsb' 0 8)) := by
  rw [decode, if_neg (not_not.mpr hupper), hcode]

/-- R301: a word decodes to an operation exactly when it is that operation's word. -/
theorem decode_eq_ok_iff {w : Word} {i : Instr} : decode w = .ok i ↔ w = encode i := by
  rw [eq_encode_iff]
  constructor
  · intro h
    by_cases hupper : w.extractLsb' 8 24 = 0#24
    · cases hcode : operationOf (w.extractLsb' 0 8) with
      | none => simp [decode_unassignedCode hupper hcode] at h
      | some j =>
        obtain rfl : j = i := Except.ok.inj ((decode_assigned hupper hcode).symm.trans h)
        exact ⟨hupper, operationOf_eq_some_iff.mp hcode⟩
    · simp [decode_upperBitsSet hupper] at h
  · rintro ⟨hupper, hcode⟩
    exact decode_assigned hupper (operationOf_eq_some_iff.mpr hcode)

@[simp] theorem decode_encode (i : Instr) : decode (encode i) = .ok i := decode_eq_ok_iff.mpr rfl

/-- R301: decoding is total, so a word is ILLEGAL exactly when it is the word of no operation. -/
theorem decode_isError_iff (w : Word) : (∃ e, decode w = .error e) ↔ ¬∃ i, w = encode i := by
  simp only [← decode_eq_ok_iff]
  cases decode w <;> simp

/-- R301: bits 31:8 are 0. -/
theorem upperBits_eq_zero_iff (w : Word) : w.extractLsb' 8 24 = 0#24 ↔ w >>> 8 = 0 := by
  have hword : w.toNat < 2 ^ 32 := w.isLt
  simp only [← BitVec.toNat_inj, BitVec.extractLsb'_toNat, BitVec.toNat_ushiftRight,
    BitVec.ofNat_eq_ofNat, BitVec.toNat_ofNat, Nat.shiftRight_eq_div_pow]
  omega

/-- Settles O2. The third part: a word is no operation's word when its upper bits are not 0 or its low
byte is none of the codes of the table. -/
theorem decodeAndEncodeAgree : Obligations.DecodeAndEncodeAgree := by
  refine ⟨fun i _ => decode_encode i, fun w i => decode_eq_ok_iff.mp, fun w => ?_⟩
  have hlow : w.extractLsb' 0 8 = w.setWidth 8 := Machine.byteOperand_eq w
  have hcodes := exists_eq_opcode_iff (w.setWidth 8)
  simp only [decode_isError_iff, eq_encode_iff, upperBits_eq_zero_iff, hlow, exists_and_left, hcodes,
    not_and_or]
  rfl

/-- Settles O1: an assigned word is its operation's word; the other five are refused for their upper bits
or for their code. -/
theorem operationWordsDecode : Obligations.OperationWordsDecode :=
  ⟨decode_encode .esc, decode_encode .unesc, decode_encode .unescRst, decode_encode .enc16,
    decode_encode .dec16, decode_encode .chkClr, decode_encode .chkAdd, decode_encode .chkRd,
    decode_encode .chkSeq, decode_encode .frmJog, decode_encode .frmStop, decode_encode .frmAbs,
    decode_encode .frmDelta, decode_encode .frmZero, decode_encode .frmHome, decode_encode .frmSync,
    decode_encode .rspParse, decode_encode .flgDecode,
    decode_unassignedCode rfl rfl, decode_unassignedCode rfl rfl, decode_unassignedCode rfl rfl,
    decode_upperBitsSet (by decide), decode_upperBitsSet (by decide)⟩

end Sys2Proof

namespace Sys2Proof.Machine

/-! ### The CMD write -/

/-- R300, R301: a write to CMD of a word that decodes runs its operation. -/
theorem State.performCommand_of_decode (s : State) {w : Word} {i : Instr} (h : decode w = .ok i) :
    s.performCommand w = exec i (s.setCmdLast w) := by
  rw [State.performCommand, h]

/-- Settles O3: the step is the CMD write, and the word decodes. -/
theorem commandWriteRunsDecodedOperation : Obligations.CommandWriteRunsDecodedOperation := by
  intro s w i rest hc hp hd
  rw [step_command hc hp, State.performCommand_of_decode _ hd]
  rfl

/-! ### The lengths of the built frames -/

/-- R305, R510 to R516: how many logical payload bytes the frame of an operation has; 0 for one that
builds no frame. -/
def framePayloadLength : Instr → Nat
  | .frmJog | .frmStop => 5
  | .frmAbs | .frmDelta => 4
  | _ => 0

/-- R500: a frame operation that ends without error has built a frame with its command number and a
payload of its length. -/
theorem exec_frame {i : Instr} {s t : State} {cmd : Byte} (hcmd : frameCommand s.cfg i = some cmd)
    (h : exec i s = .next t) (herr : t.err = .none) :
    ∃ p, t = s.build cmd p ∧ p.length = framePayloadLength i := by
  rcases exec_cases h with ⟨rfl, -⟩ | ⟨rfl, -⟩ | ⟨rfl, -⟩ | ⟨rfl, -⟩ | ⟨-, arg, rfl⟩ | ⟨-, rfl⟩ |
    ⟨rfl, -⟩ | ⟨rfl, -⟩ | ⟨rfl, -⟩ | ⟨rfl, -⟩ | ⟨hi, -⟩ | ⟨hi, -⟩ | ⟨cmd', p, rfl, hframe⟩ | ⟨rfl, -⟩ |
    ⟨rfl, -⟩ | ⟨rfl, -⟩
  -- ESC, UNESC, UNESC_RST, ENC16
  iterate 4 cases hcmd
  -- a failed build
  iterate 2 simp at herr
  -- DEC16 with and without a field, CHK_CLR, CHK_ADD; then CHK_RD or CHK_SEQ
  iterate 4 cases hcmd
  iterate 2
    obtain rfl | rfl : i = .chkRd ∨ i = .chkSeq := by simpa using hi
    iterate 2 cases hcmd
  · obtain ⟨hcmd', hlen⟩ : frameCommand s.cfg i = some cmd' ∧ p.length = framePayloadLength i := by
      rcases hframe with ⟨rfl, rfl, hp⟩ | ⟨rfl, rfl, hp⟩ | ⟨rfl, rfl, hp⟩ | ⟨rfl, rfl, hp⟩ |
        ⟨rfl, rfl, rfl⟩ | ⟨rfl, rfl, rfl⟩ | ⟨rfl, rfl, rfl⟩
      iterate 4 exact ⟨rfl, hp⟩
      iterate 3 exact ⟨rfl, rfl⟩
    obtain rfl : cmd' = cmd := Option.some.inj (hcmd'.symm.trans hcmd)
    exact ⟨p, rfl, hlen⟩
  -- RSP_PARSE and FLG_DECODE
  iterate 3 cases hcmd

/-- R111, R307: OUT_LEN counts a built frame in its five bits when the payload is no longer than that of
a jog. -/
theorem State.build_outLen_toNat (s : State) (cmd : Byte) {p : List Byte} (hp : p.length ≤ 5) :
    (s.build cmd p).outLen.toNat = (frameBytes s.cfg cmd p).length := by
  have hframe : (frameBytes s.cfg cmd p).length < 2 ^ 5 := by
    have hbound := (frameBytes_length_bounds s.cfg cmd p).2
    split at hbound <;> omega
  rw [State.build_outLen, BitVec.toNat_ofNat, Nat.mod_eq_of_lt hframe]

/-- R500: RES[7:0] after a successful build is the logical checksum. -/
theorem State.build_res_setWidth (s : State) (cmd : Byte) (p : List Byte) :
    (s.build cmd p).res.setWidth 8 = frameLrc cmd p := by
  simp

/-- No frame operation has more payload than a jog. -/
theorem framePayloadLength_le (i : Instr) : framePayloadLength i ≤ 5 := by
  cases i <;> decide

/-- R307: a frame is four bytes, five when its checksum is escaped, and one or two for each byte of the
payload. -/
theorem exec_frame_outLen {i : Instr} {s t : State} {cmd : Byte}
    (hcmd : frameCommand s.cfg i = some cmd) (h : exec i s = .next t) (herr : t.err = .none) :
    (if s.cfg.escChk = true ∧ t.res.setWidth 8 ∈ s.cfg.ctrl then 5 else 4) + framePayloadLength i ≤
        t.outLen.toNat ∧
      t.outLen.toNat ≤
        (if s.cfg.escChk = true ∧ t.res.setWidth 8 ∈ s.cfg.ctrl then 5 else 4) +
          2 * framePayloadLength i := by
  obtain ⟨p, rfl, hp⟩ := exec_frame hcmd h herr
  rw [State.build_outLen_toNat s cmd (hp ▸ framePayloadLength_le i), State.build_res_setWidth, ← hp]
  exact frameBytes_length_bounds s.cfg cmd p

/-- Settles O38: the payload has no, five or four bytes. -/
theorem frameLengthsBounded : Obligations.FrameLengthsBounded := by
  intro i s t h herr
  have bounds {cmd : Byte} (hcmd : frameCommand s.cfg i = some cmd) := exec_frame_outLen hcmd h herr
  refine ⟨fun hi => ?payloadFree, fun hi => ?jog, fun hi => ?move⟩
  case payloadFree =>
    obtain rfl | rfl | rfl : i = .frmZero ∨ i = .frmHome ∨ i = .frmSync := by simpa using hi
    all_goals exact Nat.le_antisymm (bounds rfl).2 (bounds rfl).1
  case jog =>
    obtain rfl | rfl : i = .frmJog ∨ i = .frmStop := by simpa using hi
    all_goals
      exact ⟨Nat.le_trans (by split <;> decide) (bounds rfl).1,
        (bounds rfl).2.trans_eq (by split <;> rfl)⟩
  case move =>
    obtain rfl | rfl : i = .frmAbs ∨ i = .frmDelta := by simpa using hi
    all_goals
      exact ⟨Nat.le_trans (by split <;> decide) (bounds rfl).1,
        (bounds rfl).2.trans_eq (by split <;> rfl)⟩

/-! ### Host writes in a row -/

/-- What a host write of a register other than CMD changes does not depend on the accesses still to
come. -/
theorem State.writeRegister_setPending (s : State) (es : List BusEvent) (off : Nat) (v : Word) :
    (s.setPending es).writeRegister off v = (s.writeRegister off v).setPending es := by
  have writeIn (t : State) (i : Nat) (b : Byte) :
      (t.setPending es).writeIn i b = (t.writeIn i b).setPending es := by
    unfold State.writeIn
    rw [State.setPending_cfg]
    split <;> rfl
  unfold State.writeRegister
  split
  · rfl
  split
  · rfl
  split
  · rfl
  split
  · rfl
  split
  · unfold State.writeStatus
    split <;> rfl
  split
  · simp only [State.writeInWord, writeIn]
  · rfl

/-- The state after host writes of registers other than CMD, each an (offset, word) pair. -/
def State.takeWrites (s : State) (ws : List (Nat × Word)) : State :=
  ws.foldl (fun t w => t.tick.writeRegister w.1 w.2) s

/-- R210: a run that begins with host writes of registers other than CMD takes them in their order. -/
theorem run_writes (ws : List (Nat × Word)) (rest : List BusEvent) (k : Nat) (s : State)
    (hc : s.cfg.accepted = true) (hoff : ∀ w ∈ ws, w.1 < 0x200 ∧ w.1 % 4 = 0 ∧ w.1 ≠ 0) :
    core.run (ws.length + k)
        (s.setPending ((ws.map fun w => .write 32 (s.cfg.base + w.1) w.2) ++ rest)) =
      core.run k ((s.takeWrites ws).setPending rest) := by
  induction ws generalizing s with
  | nil => rw [List.length_nil, Nat.zero_add]; rfl
  | cons w ws ih =>
    obtain ⟨⟨hlt, halign, hcmd⟩, hrest⟩ := List.forall_mem_cons.mp hoff
    have hcfg : (s.tick.writeRegister w.1 w.2).cfg = s.cfg := State.writeRegister_cfg _ _ _
    have hrun := ih (s.tick.writeRegister w.1 w.2) (hcfg ▸ hc) hrest
    rw [hcfg, ← State.writeRegister_setPending] at hrun
    rw [List.length_cons, Nat.add_right_comm]
    refine Eq.trans ?_ hrun
    exact run_write hc rfl hlt halign hcmd

/-! ### Operation statements -/

/-- R313: the host writes of an operation's operands, to ARG_A, ARG_B and ARG_C in that order. -/
def operandWrites (vs : List Int) : List (Nat × Word) :=
  List.zip [0x004, 0x008, 0x00C] (vs.map valueWord)

theorem operandWrites_length {vs : List Int} (h : vs.length ≤ 3) :
    (operandWrites vs).length = vs.length := by
  simp [operandWrites, h]

/-- R201: operands go to registers other than CMD. -/
theorem operandWrites_offset {vs : List Int} {w : Nat × Word} (h : w ∈ operandWrites vs) :
    w.1 < 0x200 ∧ w.1 % 4 = 0 ∧ w.1 ≠ 0 := by
  have hreg : w.1 ∈ [0x004, 0x008, 0x00C] := (List.of_mem_zip h).1
  simp only [List.mem_cons, List.not_mem_nil, or_false] at hreg
  omega

/-- R313: the accesses of an operation statement: its operand writes, then its CMD write. -/
theorem Stmt.events_op (base : Nat) (i : Instr) (vs : List Int) :
    (Stmt.op i vs).events base =
      ((operandWrites vs).map fun w => .write 32 (base + w.1) w.2) ++
        [.write 32 (base + 0) (encode i)] :=
  List.map_append

/-- R312, R313: the operand writes of a statement set ARG_A, ARG_B and ARG_C in that order and leave a
register without an operand as it was. -/
theorem State.takeWrites_operandWrites (s : State) {vs : List Int} (h : vs.length ≤ 3) :
    s.takeWrites (operandWrites vs) = { s with
      argA := (vs[0]?.map valueWord).getD s.argA
      argB := (vs[1]?.map valueWord).getD s.argB
      argC := (vs[2]?.map valueWord).getD s.argC
      epoch := s.epoch + vs.length } := by
  match vs, h with
  | [], _ => rfl
  | [_], _ => rfl
  | [_, _], _ => rfl
  | [_, _, _], _ => rfl

/-- R300: a run of one step that takes the CMD write of an operation is that operation. -/
theorem run_single_command {s : State} {w : Word} {i : Instr} {rest : List BusEvent}
    (hc : s.cfg.accepted = true) (hp : s.pending = .write 32 (s.cfg.base + 0) w :: rest)
    (hd : decode w = .ok i) : core.run 1 s = exec i ((s.setPending rest).tick.setCmdLast w) := by
  obtain ⟨t, ht⟩ := exec_answers_next i ((s.setPending rest).tick.setCmdLast w)
  exact (run_command hc hp hd ht).trans ht.symm

/-- Settles O54: the run takes the operand writes, then the CMD write. -/
theorem statementRunsOperation : Obligations.StatementRunsOperation := by
  intro s i vs rest hc hlen hp
  rw [Stmt.events_op, List.append_assoc, List.singleton_append] at hp
  have hwrites := run_writes (operandWrites vs) (.write 32 (s.cfg.base + 0) (encode i) :: rest) 1 s hc
    fun w => operandWrites_offset
  rw [operandWrites_length hlen, State.takeWrites_operandWrites s hlen, ← hp] at hwrites
  exact hwrites.trans (run_single_command hc rfl (decode_encode i))

end Sys2Proof.Machine

namespace Sys2Proof.Machine

/-! ### Wire forms

R308: `WireByte` says which wire bytes stand for a logical byte. The escape, the field decoder and the
unescaper are each tied to it once; the laws of the family follow from those ties. -/

/-- R16, W1: the escape of a byte is a wire form of it: without a pair it is not the introducer. -/
theorem wireByte_esc {c : Config} (hw1 : c.escIntro ∈ c.ctrl) (b : Byte) : WireByte c b (esc c b) := by
  by_cases hb : b ∈ c.ctrl
  · rw [esc_of_mem hb]
    have hpair := WireByte.pair (c := c) (b ^^^ xorMask)
    rwa [show b ^^^ xorMask ^^^ 0x80#8 = b by simp [xorMask]] at hpair
  · rw [esc_of_not_mem hb]
    exact .plain b fun heq => hb (heq ▸ hw1)

/-- A wire form has one or two bytes. -/
theorem WireByte.length_le {c : Config} {b : Byte} {w : List Byte} (h : WireByte c b w) :
    w.length ≤ 2 := by
  cases h <;> simp

/-- R308: what is read from the front of the wire is a logical byte whose wire form stands there. -/
theorem takeLogical_eq_some_iff {c : Config} {wire rest : List Byte} {b : Byte} :
    takeLogical c wire = some (b, rest) ↔ ∃ w, WireByte c b w ∧ wire = w ++ rest := by
  constructor
  · intro h
    obtain ⟨hb, rfl⟩ | ⟨y, rfl, rfl⟩ := takeLogical_cases h
    · exact ⟨_, .plain b hb, rfl⟩
    · exact ⟨_, .pair y, rfl⟩
  · rintro ⟨w, hw, rfl⟩
    cases hw with
    | plain x hx => exact takeLogical_plain hx rest
    | pair y => exact takeLogical_pair c y rest

/-- R17: the 16-bit pattern of a field from its two logical bytes. -/
def fieldPattern (lo hi : Byte) : Half := hi.setWidth 16 <<< 8 ||| lo.setWidth 16

/-- R420: the field read from a wire that begins with the wire forms of two logical bytes. -/
theorem takeField_wireBytes {c : Config} {lo hi : Byte} {wireLo wireHi : List Byte}
    (hlo : WireByte c lo wireLo) (hhi : WireByte c hi wireHi) (tail : List Byte) :
    takeField c (wireLo ++ wireHi ++ tail) =
      some (fieldPattern lo hi, wireLo.length + wireHi.length) := by
  have hfirst : takeLogical c (wireLo ++ wireHi ++ tail) = some (lo, wireHi ++ tail) :=
    takeLogical_eq_some_iff.mpr ⟨wireLo, hlo, List.append_assoc ..⟩
  have hsecond : takeLogical c (wireHi ++ tail) = some (hi, tail) :=
    takeLogical_eq_some_iff.mpr ⟨wireHi, hhi, rfl⟩
  have hcount : (wireLo ++ wireHi ++ tail).length - tail.length = wireLo.length + wireHi.length := by
    rw [List.length_append, List.length_append, Nat.add_sub_cancel]
  simp only [takeField, hfirst, hsecond, hcount, fieldPattern]

/-- R420: a field is read only from a wire that begins with the wire forms of two logical bytes. -/
theorem exists_wireBytes_of_takeField {c : Config} {wire : List Byte} {r : Half × Nat}
    (h : takeField c wire = some r) :
    ∃ (lo hi : Byte) (wireLo wireHi tail : List Byte),
      WireByte c lo wireLo ∧ WireByte c hi wireHi ∧ wire = wireLo ++ wireHi ++ tail := by
  unfold takeField at h
  split at h
  next => cases h
  next lo rest hfirst =>
    split at h
    next => cases h
    next hi tail hsecond =>
      obtain ⟨wireLo, hlo, rfl⟩ := takeLogical_eq_some_iff.mp hfirst
      obtain ⟨wireHi, hhi, rfl⟩ := takeLogical_eq_some_iff.mp hsecond
      exact ⟨lo, hi, wireLo, wireHi, tail, hlo, hhi, (List.append_assoc ..).symm⟩

/-! ### The 16-bit field as a number -/

/-- A low part of a register, extended to the register's width, is the register masked. -/
theorem setWidth_extractLsb'_zero (w : Word) {n : Nat} (hn : n ≤ 32) :
    (w.extractLsb' 0 n).setWidth 32 = w &&& BitVec.ofNat 32 (2 ^ n - 1) := by
  have hpow : 2 ^ n ≤ 2 ^ 32 := Nat.pow_le_pow_right (by decide) hn
  have hpos : 0 < 2 ^ n := Nat.two_pow_pos n
  apply BitVec.eq_of_toNat_eq
  rw [BitVec.toNat_setWidth, BitVec.extractLsb'_toNat, Nat.shiftRight_zero, BitVec.toNat_and,
    BitVec.toNat_ofNat, Nat.mod_eq_of_lt (a := 2 ^ n - 1) (by omega), Nat.and_two_pow_sub_one_eq_mod,
    Nat.mod_eq_of_lt (a := w.toNat % 2 ^ n) ((Nat.mod_lt _ hpos).trans_le hpow)]

/-- R17: the pattern of a field is its high byte times 256 plus its low byte. -/
theorem fieldPattern_toNat (lo hi : Byte) : (fieldPattern lo hi).toNat = 256 * hi.toNat + lo.toNat := by
  have hlo := lo.isLt
  have hhi := hi.isLt
  rw [fieldPattern, BitVec.toNat_or, BitVec.toNat_shiftLeft, BitVec.toNat_setWidth,
    BitVec.toNat_setWidth, Nat.mod_eq_of_lt (a := lo.toNat) (by omega),
    Nat.mod_eq_of_lt (a := hi.toNat) (by omega),
    Nat.mod_eq_of_lt (a := hi.toNat <<< 8) (by rw [Nat.shiftLeft_eq]; omega),
    ← Nat.shiftLeft_add_eq_or_of_lt hlo, Nat.shiftLeft_eq, Nat.mul_comm]

/-- R420: the signed value of a field, as it stands sign-extended in RES. -/
theorem toInt_signExtend_fieldPattern (lo hi : Byte) :
    ((fieldPattern lo hi).signExtend 32).toInt = (if hi.toNat < 128 then (256 * hi.toNat + lo.toNat : Int)
      else 256 * hi.toNat + lo.toNat - 65536) := by
  have hlo := lo.isLt
  rw [BitVec.toInt_signExtend_of_le (by decide), BitVec.toInt_eq_toNat_cond, fieldPattern_toNat]
  split <;> split <;> omega

/-- R17, R420: the low two bytes of an operand in int16, read as a signed field, are the operand. -/
theorem field_of_int16 {w : Word} (hlo : -32768 ≤ w.toInt) (hhi : w.toInt ≤ 32767) :
    (if (w.extractLsb' 8 8).toNat < 128
      then (256 * (w.extractLsb' 8 8).toNat + (w.extractLsb' 0 8).toNat : Int)
      else 256 * (w.extractLsb' 8 8).toNat + (w.extractLsb' 0 8).toNat - 65536) = w.toInt := by
  have hword := w.isLt
  rw [BitVec.toInt_eq_toNat_cond] at hlo hhi ⊢
  simp only [BitVec.extractLsb'_toNat, Nat.shiftRight_eq_div_pow]
  split at hlo <;> split <;> omega

/-! ### What the codec's updates leave as they were

The hidden state, update by update: an operation that writes OUT, RES, RES2 and the status alone leaves
it as it was. -/

section Frames

variable {s t : State}

theorem SameHidden.refl (s : State) : SameHidden s s := ⟨⟨rfl, rfl⟩, rfl, rfl, ⟨rfl, rfl, rfl⟩⟩

theorem SameHidden.setOut (h : SameHidden s t) (bs : List Byte) : SameHidden s (t.setOut bs) :=
  ⟨⟨h.acc.acc, h.acc.accN⟩, h.unescPend, h.rsp, ⟨h.cond.flags, h.cond.cond, h.cond.condN⟩⟩

theorem SameHidden.setRes (h : SameHidden s t) (v : Word) : SameHidden s (t.setRes v) :=
  ⟨⟨h.acc.acc, h.acc.accN⟩, h.unescPend, h.rsp, ⟨h.cond.flags, h.cond.cond, h.cond.condN⟩⟩

theorem SameHidden.setRes2 (h : SameHidden s t) (v : Word) : SameHidden s (t.setRes2 v) :=
  ⟨⟨h.acc.acc, h.acc.accN⟩, h.unescPend, h.rsp, ⟨h.cond.flags, h.cond.cond, h.cond.condN⟩⟩

theorem SameHidden.done (h : SameHidden s t) : SameHidden s t.done :=
  ⟨⟨h.acc.acc, h.acc.accN⟩, h.unescPend, h.rsp, ⟨h.cond.flags, h.cond.cond, h.cond.condN⟩⟩

theorem SameHidden.raise (h : SameHidden s t) (e : ErrKind) (arg : ErrArg) :
    SameHidden s (t.raise e arg) :=
  ⟨⟨h.acc.acc, h.acc.accN⟩, h.unescPend, h.rsp, ⟨h.cond.flags, h.cond.cond, h.cond.condN⟩⟩

/-- R710: `done` leaves the sticky bit to the updates before it. -/
theorem endsDone_done (h : t.errSticky = s.errSticky) : EndsDone s t.done := ⟨rfl, rfl, h⟩

/-- R710: what `raise` records. -/
theorem endsRaised_raise (s : State) (e : ErrKind) (arg : ErrArg) : EndsRaised e arg (s.raise e arg) :=
  ⟨rfl, rfl, rfl⟩

end Frames

/-! ### ESC, UNESC and UNESC_RST -/

/-- Settles O20: UNESC_RST writes UNESC_PEND and the status. -/
theorem unescRstDropsPendingPair : Obligations.UnescRstDropsPendingPair := by
  refine ⟨decode_encode .unescRst, fun s => ⟨_, exec_unescRst s, rfl, ?_⟩⟩
  exact ⟨⟨rfl, rfl, rfl⟩, exec_sameInputs (exec_unescRst s), ⟨rfl, rfl⟩, rfl, rfl, ⟨rfl, rfl⟩, rfl,
    ⟨rfl, rfl, rfl⟩⟩

/-- Settles O18: a control byte has the two bytes of its pair in OUT, any other byte itself. -/
theorem escWritesWireForm : Obligations.EscWritesWireForm := by
  refine ⟨decode_encode .esc, fun s => ⟨_, exec_esc s, fun hctrl => ?_, fun hplain => ?_, ?_⟩⟩
  · have hesc : esc s.cfg (byteOperand s.argA) = [s.cfg.escIntro, s.argA.setWidth 8 ^^^ 0x80#8] := by
      rw [byteOperand_eq]
      exact esc_of_mem hctrl
    simp [hesc]
  · have hesc : esc s.cfg (byteOperand s.argA) = [s.argA.setWidth 8] := by
      rw [byteOperand_eq]
      exact esc_of_not_mem hplain
    simp [hesc]
  · exact ⟨endsDone_done (by simp), exec_sameInputs (exec_esc s),
      ((SameHidden.refl s).setOut _).done, rfl, rfl⟩

/-- R402: a plain byte leaves no pair pending, as none was. -/
theorem exec_unesc_plain_setPend {s : State} (h : s.unescPend = false)
    (hx : byteOperand s.argA ≠ s.cfg.escIntro) :
    exec .unesc s =
      .next (((s.setRes ((byteOperand s.argA).setWidth 32)).setRes2 1).setPend false).done := by
  rw [exec_unesc_plain h hx, ← h]
  rfl

/-- R402: each case of UNESC writes RES, RES2, UNESC_PEND and the status, and leaves everything else as
it was. -/
theorem exec_unesc_frame {s : State} {v n : Word} {p : Bool}
    (h : exec .unesc s = .next (((s.setRes v).setRes2 n).setPend p).done) :
    let t := (((s.setRes v).setRes2 n).setPend p).done
    EndsDone s t ∧ SameInputs s t ∧ SameOut s t ∧ SameAcc s t ∧ t.rsp = s.rsp ∧ SameCond s t := by
  refine ⟨endsDone_done ?_, exec_sameInputs h, ⟨?_, ?_⟩, ⟨?_, ?_⟩, ?_, ⟨?_, ?_, ?_⟩⟩ <;> simp

/-- Settles O19: one case for a pending pair, one for the introducer, one for a plain byte. -/
theorem unescFeedsOneByte : Obligations.UnescFeedsOneByte := by
  refine ⟨decode_encode .unesc, fun s => ?_⟩
  have hbyte : (byteOperand s.argA).setWidth 32 = s.argA &&& 0xFF#32 :=
    setWidth_extractLsb'_zero s.argA (by decide)
  cases hpend : s.unescPend with
  | true =>
    have hstep := exec_unesc_pair hpend
    have hres : (byteOperand s.argA ^^^ xorMask).setWidth 32 = (s.argA &&& 0xFF#32) ^^^ 0x80#32 := by
      rw [BitVec.setWidth_xor, hbyte]
      rfl
    exact ⟨_, hstep, fun _ => ⟨hres, rfl, rfl⟩, nofun, nofun, exec_unesc_frame hstep⟩
  | false =>
    rw [← byteOperand_eq]
    by_cases hx : byteOperand s.argA = s.cfg.escIntro
    · have hstep := exec_unesc_intro hpend hx
      exact ⟨_, hstep, nofun, fun _ _ => ⟨rfl, rfl, rfl⟩, fun _ hne => absurd hx hne,
        exec_unesc_frame hstep⟩
    · have hstep := exec_unesc_plain_setPend hpend hx
      exact ⟨_, hstep, nofun, fun _ heq => absurd heq hx, fun _ _ => ⟨hbyte, rfl, rfl⟩,
        exec_unesc_frame hstep⟩

/-! ### The streaming unescaper -/

/-- R402: what one wire byte adds to the output of the bytes after it. -/
theorem feedUnesc_cons {x : Byte} {s t : State} (h : exec .unesc (s.setArgA (x.setWidth 32)) = .next t)
    (rest : List Byte) :
    feedUnesc (x :: rest) s =
      (feedUnesc rest t).map fun r => ((if t.res2 = 1 then [t.res.setWidth 8] else []) ++ r.1, r.2) := by
  rw [feedUnesc, h]
  cases hrest : feedUnesc rest t <;> simp only [hrest] <;> rfl

/-- R402: a wire byte that leaves RES2 = 0 puts nothing out. -/
theorem feedUnesc_cons_silent {x : Byte} {s t : State}
    (h : exec .unesc (s.setArgA (x.setWidth 32)) = .next t) (hres2 : t.res2 = 0) (rest : List Byte) :
    feedUnesc (x :: rest) s = feedUnesc rest t := by
  have hnone : (if t.res2 = 1 then [t.res.setWidth 8] else [] : List Byte) = [] :=
    if_neg (by simp [hres2])
  rw [feedUnesc_cons h, hnone]
  exact Option.map_id_apply

/-- R402: a single wire byte that leaves RES2 = 1 puts out the byte in RES. -/
theorem feedUnesc_singleton {x b : Byte} {s t : State}
    (h : exec .unesc (s.setArgA (x.setWidth 32)) = .next t) (hres : t.res = b.setWidth 32)
    (hres2 : t.res2 = 1) : feedUnesc [x] s = some ([b], t) := by
  rw [feedUnesc_cons h]
  simp [feedUnesc, hres, hres2]

/-- A wire sequence is fed in two parts by feeding the second to the state the first leaves. -/
theorem feedUnesc_append (xs ys : List Byte) (s : State) :
    feedUnesc (xs ++ ys) s =
      (feedUnesc xs s).bind fun r => (feedUnesc ys r.2).map fun q => (r.1 ++ q.1, q.2) := by
  induction xs generalizing s with
  | nil => exact Option.map_id_apply.symm
  | cons x xs ih =>
    obtain ⟨t, ht⟩ := exec_answers_next .unesc (s.setArgA (x.setWidth 32))
    rw [List.cons_append, feedUnesc_cons ht, feedUnesc_cons ht, ih]
    simp [Option.map_bind, Option.bind_map, Function.comp_def]

/-- R402: a leading introducer puts nothing out and leaves a pair pending. -/
theorem exec_unesc_of_introducer {s : State} (hpend : s.unescPend = false) :
    exec .unesc (s.setArgA (s.cfg.escIntro.setWidth 32)) =
      .next ((((s.setArgA (s.cfg.escIntro.setWidth 32)).setRes 0).setRes2 0).setPend true).done :=
  exec_unesc_intro hpend (byteOperand_setWidth _)

/-- R402: the byte after an introducer puts out its logical byte, and no pair is pending any more. -/
theorem feedUnesc_of_pending {s : State} (hpend : s.unescPend = true) (y : Byte) :
    ∃ t, feedUnesc [y] s = some ([y ^^^ xorMask], t) ∧ t.cfg = s.cfg ∧ t.unescPend = false ∧
      t.res = (y ^^^ xorMask).setWidth 32 ∧ t.res2 = 1 := by
  have hpair := exec_unesc_pair (s := s.setArgA (y.setWidth 32)) hpend
  rw [State.setArgA_argA, byteOperand_setWidth] at hpair
  exact ⟨_, feedUnesc_singleton hpair rfl rfl, rfl, rfl, rfl, rfl⟩

/-- R402, R308: a wire form fed with no pair pending puts out its logical byte, which stands in RES, and
leaves no pair pending. -/
theorem feedUnesc_wireByte {s : State} {b : Byte} {w : List Byte} (hw : WireByte s.cfg b w)
    (hpend : s.unescPend = false) :
    ∃ t, feedUnesc w s = some ([b], t) ∧ t.cfg = s.cfg ∧ t.unescPend = false ∧
      t.res = b.setWidth 32 ∧ t.res2 = 1 := by
  cases hw with
  | plain _ hx =>
    have hplain := exec_unesc_plain (s := s.setArgA (b.setWidth 32)) hpend
      (by rwa [State.setArgA_argA, byteOperand_setWidth])
    have hres : (byteOperand (b.setWidth 32)).setWidth 32 = b.setWidth 32 := by
      rw [byteOperand_setWidth]
    exact ⟨_, feedUnesc_singleton hplain hres rfl, rfl, hpend, hres, rfl⟩
  | pair y =>
    rw [feedUnesc_cons_silent (exec_unesc_of_introducer hpend) rfl]
    exact feedUnesc_of_pending rfl y

/-- R430: under W1 the escape of a sequence of bytes, fed with no pair pending, comes out as that
sequence; its last byte stands in RES, and no pair is pending. -/
theorem feedUnesc_escape {s : State} (hw1 : s.cfg.escIntro ∈ s.cfg.ctrl) (hpend : s.unescPend = false)
    (bs : List Byte) :
    ∃ t, feedUnesc (bs.flatMap (esc s.cfg)) s = some (bs, t) ∧ t.cfg = s.cfg ∧ t.unescPend = false ∧
      ∀ b, bs.getLast? = some b → t.res = b.setWidth 32 ∧ t.res2 = 1 := by
  induction bs using List.reverseRecOn with
  | nil => exact ⟨s, rfl, rfl, hpend, nofun⟩
  | append_singleton bs b ih =>
    obtain ⟨t, hfront, hcfg, htpend, -⟩ := ih
    have hwire : WireByte t.cfg b (esc s.cfg b) := hcfg ▸ wireByte_esc hw1 b
    obtain ⟨u, hlast, hucfg, hupend, hres, hres2⟩ := feedUnesc_wireByte hwire htpend
    refine ⟨u, ?_, hucfg.trans hcfg, hupend, fun x hx => ?_⟩
    · simp [feedUnesc_append, hfront, hlast]
    · obtain rfl : b = x := by simpa using hx
      exact ⟨hres, hres2⟩

/-- Settles O21: under W1 by induction on the sequence; without W1 the introducer's escape is the
introducer alone, which UNESC takes for the first byte of a pair. -/
theorem unescapeInvertsEscapeUnderW1 : Obligations.UnescapeInvertsEscapeUnderW1 := by
  refine fun s hpend => ⟨fun hw1 bs => ?_, fun hw1 => ?_⟩
  · obtain ⟨t, hfeed, -, htpend, hlast⟩ := feedUnesc_escape hw1 hpend bs
    exact ⟨t, hfeed, htpend, hlast⟩
  · rw [esc_of_not_mem hw1, feedUnesc_cons_silent (exec_unesc_of_introducer hpend) rfl]
    exact ⟨_, rfl, rfl⟩

/-! ### ENC16 and DEC16 -/

/-- R410: the wire bytes of an operand's field are the escapes of its low two bytes. -/
theorem escAll_le16_s32 (c : Config) (w : Word) :
    escAll c (le16 (s32 w)) = esc c (w.extractLsb' 0 8) ++ esc c (w.extractLsb' 8 8) := by
  simp [escAll, le16_s32]

/-- R432: the field length law. -/
theorem escAll_le16_s32_length (c : Config) (w : Word) :
    (escAll c (le16 (s32 w))).length = 2 + (if w.extractLsb' 0 8 ∈ c.ctrl then 1 else 0) +
      (if w.extractLsb' 8 8 ∈ c.ctrl then 1 else 0) := by
  rw [escAll_le16_s32, List.length_append, esc_length, esc_length]
  split <;> split <;> rfl

/-- R410: OUT_LEN counts the wire bytes of a field in its five bits. -/
theorem State.setOut_field_outLen_toNat (s : State) (w : Word) :
    (s.setOut (escAll s.cfg (le16 (s32 w)))).outLen.toNat = (escAll s.cfg (le16 (s32 w))).length := by
  have hle : (escAll s.cfg (le16 (s32 w))).length ≤ 2 * 2 := (escAll_length_bounds s.cfg _).2
  rw [State.setOut_outLen, BitVec.toNat_ofNat, Nat.mod_eq_of_lt (by omega)]

/-- Settles O23: the operand is in int16 or it is not. -/
theorem enc16EncodesOrRefusesRange : Obligations.Enc16EncodesOrRefusesRange := by
  refine ⟨decode_encode .enc16, fun s => ?_⟩
  cases hrange : inInt16 (s32 s.argA) with
  | true =>
    have hstep := exec_enc16_ok hrange
    have hin : -32768 ≤ s.argA.toInt ∧ s.argA.toInt ≤ 32767 := (inInt16_iff _).mp hrange
    have hres : (pattern16 (s32 s.argA)).setWidth 32 = s.argA &&& 0xFFFF#32 := by
      rw [pattern16_s32]
      exact setWidth_extractLsb'_zero s.argA (by decide)
    refine ⟨_, hstep, exec_sameInputs hstep, (((SameHidden.refl s).setOut _).setRes _).done, by simp,
      fun _ _ => ⟨escAll_le16_s32 _ _, ?_, hres, endsDone_done (by simp)⟩,
      fun hout => by omega⟩
    exact (s.setOut_field_outLen_toNat s.argA).trans (escAll_le16_s32_length _ _)
  | false =>
    have hstep := exec_enc16_range hrange
    have hout : s.argA.toInt < -32768 ∨ 32767 < s.argA.toInt := (not_inInt16_iff _).mp hrange
    exact ⟨_, hstep, exec_sameInputs hstep, (((SameHidden.refl s).setOut []).setRes 0).raise _ _, rfl,
      fun hlo hhi => by omega, fun _ => ⟨rfl, rfl, endsRaised_raise _ _ _⟩⟩

/-- R303: what IN holds is the operand sequence. -/
theorem State.Holds.inSeq_eq {s : State} {wire : List Byte} (h : s.Holds wire) : s.inSeq = wire :=
  List.ext_getElem (s.inSeq_length.trans h.length) fun i hi hi' =>
    (s.inSeq_getElem i hi).trans (h.byte i hi')

/-- Settles O24: the wire begins with two wire forms exactly when a field is read from it. -/
theorem dec16DecodesFieldOrReports : Obligations.Dec16DecodesFieldOrReports := by
  refine ⟨decode_encode .dec16, fun s wire hholds => ?_⟩
  cases hfield : takeField s.cfg wire with
  | some r =>
    have hstep := exec_dec16_ok (hholds.inSeq_eq ▸ hfield)
    refine ⟨_, hstep, exec_sameInputs hstep, ⟨by simp, by simp⟩,
      (((SameHidden.refl s).setRes _).setRes2 _).done,
      fun lo hi wireLo wireHi tail hlo hhi hwire => ?_,
      fun hnone => absurd (exists_wireBytes_of_takeField hfield) hnone⟩
    obtain rfl : (fieldPattern lo hi, wireLo.length + wireHi.length) = r :=
      Option.some.inj ((takeField_wireBytes hlo hhi tail).symm.trans (hwire ▸ hfield))
    have hcount : (BitVec.ofNat 32 (wireLo.length + wireHi.length)).toNat =
        wireLo.length + wireHi.length := by
      have hlolen := hlo.length_le
      have hhilen := hhi.length_le
      rw [BitVec.toNat_ofNat, Nat.mod_eq_of_lt (by omega)]
    exact ⟨toInt_signExtend_fieldPattern lo hi, hcount, endsDone_done (by simp)⟩
  | none =>
    have hstep := exec_dec16_short (hholds.inSeq_eq ▸ hfield)
    refine ⟨_, hstep, exec_sameInputs hstep, ⟨by simp, by simp⟩,
      (((SameHidden.refl s).setRes 0).setRes2 0).raise _ _,
      fun lo hi wireLo wireHi tail hlo hhi hwire => ?_, fun _ => ⟨rfl, rfl, endsRaised_raise _ _ _⟩⟩
    have hsome := takeField_wireBytes hlo hhi tail
    rw [← hwire, hfield] at hsome
    cases hsome

/-- Settles O25: under W1 what ENC16 writes is the wire form of the low byte and the wire form of the
high byte, which is what DEC16 reads. -/
theorem fieldRoundTrip : Obligations.FieldRoundTrip := by
  intro s v hw1 hlo hhi
  have hv : (BitVec.ofInt 32 v).toInt = v :=
    BitVec.toInt_ofInt_eq_self (by decide) (by omega) (by omega)
  obtain ⟨t, hstep, -, -, -, hin, -⟩ :=
    enc16EncodesOrRefusesRange.2 { s with argA := BitVec.ofInt 32 v }
  obtain ⟨hout, hlen, -, hdone⟩ := hin (hlo.trans_eq hv.symm) (hv.trans_le hhi)
  have hcount : t.out.length = t.outLen.toNat := by
    rw [hlen, hout, ← escAll_le16_s32, escAll_le16_s32_length]
  refine ⟨t, hstep, hdone.err, hcount, fun u hcfg hholds => ?_⟩
  obtain ⟨u', hdec, -, -, -, hfield, -⟩ := dec16DecodesFieldOrReports.2 u t.out hholds
  have hwire (b : Byte) : WireByte u.cfg b (esc s.cfg b) := hcfg ▸ wireByte_esc hw1 b
  obtain ⟨hres, hres2, hdone'⟩ :=
    hfield _ _ _ _ [] (hwire _) (hwire _) (hout.trans (List.append_nil _).symm)
  rw [field_of_int16 (hlo.trans_eq hv.symm) (hv.trans_le hhi)] at hres
  rw [← List.length_append, ← hout, hcount] at hres2
  exact ⟨u', hdec, hres.trans hv, hres2, hdone'.err⟩

end Sys2Proof.Machine

namespace Sys2Proof.Machine

/-! ### The XOR of a sequence -/

/-- R450: bit by bit the XOR of a sequence is the parity of that bit over its bytes. -/
theorem getLsbD_xorAll_iff (bs : List Byte) (k : Nat) :
    (bs.foldr (· ^^^ ·) 0#8).getLsbD k = true ↔ bs.countP (fun b => b.getLsbD k) % 2 = 1 := by
  induction bs with
  | nil => simp
  | cons b bs ih =>
    rw [List.foldr_cons, BitVec.getLsbD_xor, List.countP_cons]
    cases b.getLsbD k with
    | false => simpa using ih
    | true =>
      have hflip (n : Nat) : (n + 1) % 2 = 1 ↔ ¬ n % 2 = 1 := by omega
      rw [if_pos rfl, hflip, ← ih, Bool.true_xor, Bool.not_eq_true', Bool.not_eq_true]

/-- A byte put into a register keeps its value. -/
theorem toNat_setWidth_byte (b : Byte) : (b.setWidth 32).toNat = b.toNat :=
  BitVec.toNat_setWidth_of_le (by decide)

/-! ### The accumulator operations -/

/-- R460, R461: an operation that writes ACC, ACC_N and the status leaves everything else as it was. -/
theorem exec_setAcc_frame {i : Instr} {s : State} {x : Byte} {n : Bool}
    (h : exec i s = .next (s.setAcc x n).done) :
    let t := (s.setAcc x n).done
    EndsDone s t ∧ SameInputs s t ∧ SameOut s t ∧ t.res = s.res ∧ t.res2 = s.res2 ∧
      t.unescPend = s.unescPend ∧ t.rsp = s.rsp ∧ SameCond s t :=
  ⟨endsDone_done rfl, exec_sameInputs h, ⟨rfl, rfl⟩, rfl, rfl, rfl, rfl, ⟨rfl, rfl, rfl⟩⟩

/-- Settles O26: CHK_CLR writes the empty accumulator and the status. -/
theorem chkClrEmptiesAccumulator : Obligations.ChkClrEmptiesAccumulator :=
  ⟨decode_encode .chkClr, fun s => ⟨_, exec_chkClr s, rfl, rfl, exec_setAcc_frame (exec_chkClr s)⟩⟩

/-- Settles O27: CHK_ADD XORs the low byte of ARG_A onto ACC. -/
theorem chkAddFoldsByte : Obligations.ChkAddFoldsByte := by
  refine ⟨decode_encode .chkAdd, fun s =>
    ⟨_, exec_chkAdd s, fun k hk => ?_, rfl, exec_setAcc_frame (exec_chkAdd s)⟩⟩
  have hbit : (byteOperand s.argA).getLsbD k = s.argA.getLsbD k := by
    simp [byteOperand_eq, hk]
  rw [State.done_acc, State.setAcc_acc, BitVec.getLsbD_xor, hbit]

/-- R462, R463: an operation that reports that there is no byte leaves RES 0 and the error, and
everything but RES and the status as it was. -/
theorem exec_noBytes_frame {i : Instr} {s : State}
    (h : exec i s = .next ((s.setRes 0).raise .invalidArgument .none)) :
    let t := (s.setRes 0).raise .invalidArgument .none
    SameInputs s t ∧ SameOut s t ∧ SameHidden s t ∧ t.res2 = s.res2 :=
  ⟨exec_sameInputs h, ⟨rfl, rfl⟩, ((SameHidden.refl s).setRes 0).raise _ _, rfl⟩

/-- R462, R463: an operation that puts a checksum out leaves everything but RES and the status as it
was. -/
theorem exec_setRes_frame {i : Instr} {s : State} {v : Word} (h : exec i s = .next (s.setRes v).done) :
    let t := (s.setRes v).done
    SameInputs s t ∧ SameOut s t ∧ SameHidden s t ∧ t.res2 = s.res2 :=
  ⟨exec_sameInputs h, ⟨rfl, rfl⟩, ((SameHidden.refl s).setRes v).done, rfl⟩

/-- Settles O28: ACC_N decides between the checksum and the error. -/
theorem chkRdReadsAccumulator : Obligations.ChkRdReadsAccumulator := by
  refine ⟨decode_encode .chkRd, fun s => ?_⟩
  cases hn : s.accN with
  | true =>
    have hstep := exec_chkRd_ok hn
    obtain ⟨hin, hout, hhidden, hres2⟩ := exec_setRes_frame hstep
    exact ⟨_, hstep, hin, hout, hhidden, hres2,
      fun _ => ⟨toNat_setWidth_byte s.acc, endsDone_done rfl⟩, nofun⟩
  | false =>
    have hstep := exec_chkRd_empty hn
    obtain ⟨hin, hout, hhidden, hres2⟩ := exec_noBytes_frame hstep
    exact ⟨_, hstep, hin, hout, hhidden, hres2, nofun, fun _ => ⟨rfl, endsRaised_raise _ _ _⟩⟩

/-- R463, R450: CHK_SEQ of a non-empty sequence puts its XOR out. -/
theorem exec_chkSeq_of_holds {s : State} {bs : List Byte} (h : s.Holds bs) (hne : bs ≠ []) :
    exec .chkSeq s = .next (s.setRes ((bs.foldr (· ^^^ ·) 0#8).setWidth 32)).done := by
  obtain ⟨b, rest, rfl⟩ := List.exists_cons_of_ne_nil hne
  rw [exec_chkSeq_ok h.inSeq_eq, xorFrom_eq, List.foldr_cons]

/-- Settles O29: IN holds a byte or none. -/
theorem chkSeqXorsSequence : Obligations.ChkSeqXorsSequence := by
  refine ⟨decode_encode .chkSeq, fun s wire hholds => ?_⟩
  by_cases hne : wire = []
  · have hstep := exec_chkSeq_empty (hholds.inSeq_eq.trans hne)
    obtain ⟨hin, hout, hhidden, hres2⟩ := exec_noBytes_frame hstep
    exact ⟨_, hstep, hin, hout, hhidden, hres2, fun h => absurd hne h,
      fun _ => ⟨rfl, endsRaised_raise _ _ _⟩⟩
  · have hstep := exec_chkSeq_of_holds hholds hne
    obtain ⟨hin, hout, hhidden, hres2⟩ := exec_setRes_frame hstep
    refine ⟨_, hstep, hin, hout, hhidden, hres2,
      fun _ => ⟨fun k hk => ?_, ?_, endsDone_done rfl⟩, fun h => absurd h hne⟩
    · rw [← getLsbD_xorAll_iff, State.done_res, State.setRes_res, BitVec.getLsbD_setWidth]
      simp [Nat.lt_trans hk (by decide : 8 < 32)]
    · exact (toNat_setWidth_byte _).trans_lt (BitVec.isLt _)

/-! ### The checksum of a frame -/

/-- R472: the checksum of a command frame cancels the command number and the payload. -/
theorem xorAll_frameLrc (cmd : Byte) (p : List Byte) :
    (cmd :: frameLrc cmd p :: p).foldr (· ^^^ ·) 0#8 = 0#8 := by
  rw [List.foldr_cons, List.foldr_cons, frameLrc, xorFrom_eq, BitVec.xor_assoc,
    BitVec.xor_self, BitVec.xor_zero, BitVec.xor_self]

/-- Settles O37: what a frame operation builds is its frame, with the checksum in RES. -/
theorem builtFrameChecksumCancels : Obligations.BuiltFrameChecksumCancels := by
  intro i s t cmd hcmd hstep herr
  obtain ⟨p, rfl, -⟩ := exec_frame hcmd hstep herr
  exact ⟨p, frameLrc cmd p, rfl, toNat_setWidth_byte _, xorAll_frameLrc cmd p⟩

/-! ### Host programs -/

/-- A run may be cut in two. -/
theorem run_add {m : Nat} {s t : State} (h : core.run m s = .next t) (k : Nat) :
    core.run (m + k) s = core.run k t := by
  induction m generalizing s with
  | zero =>
    obtain rfl : s = t := by injection h
    rw [Nat.zero_add]
  | succ m ih =>
    rw [Nat.add_right_comm]
    simp only [Host.Core.run] at h ⊢
    cases hstep : Host.Core.step core s with
    | next u =>
      simp only [hstep] at h ⊢
      exact ih h
    | fault r | refused r => simp [hstep] at h

/-- R313: the accesses of a program are those of its statements in their order. -/
theorem programEvents_append (base : Nat) (p q : List Stmt) :
    programEvents base (p ++ q) = programEvents base p ++ programEvents base q :=
  List.flatMap_append

/-- R313: the accesses of a program of one statement. -/
theorem programEvents_singleton (base : Nat) (st : Stmt) : programEvents base [st] = st.events base :=
  List.append_nil _

/-! ### The streamed checksum -/

/-- R312: the operand of CHK_ADD in a program is the byte in a register. -/
theorem valueWord_toNat_byte (b : Byte) : valueWord (b.toNat : Int) = b.setWidth 32 :=
  (BitVec.ofInt_natCast ..).trans (BitVec.ofNat_toNat ..)

/-- R460, R313: the statement CHK_CLR. -/
theorem run_chkClr {s : State} {rest : List BusEvent} (hc : s.cfg.accepted = true)
    (hp : s.pending = (Stmt.op .chkClr []).events s.cfg.base ++ rest) :
    ∃ t, core.run 1 s = .next t ∧ t.cfg = s.cfg ∧ t.pending = rest ∧ t.acc = 0 :=
  ⟨_, (statementRunsOperation s .chkClr [] rest hc (by decide) hp).trans (exec_chkClr _),
    rfl, rfl, rfl⟩

/-- R461, R313: the statement CHK_ADD with a byte as its operand. -/
theorem run_chkAdd {s : State} {b : Byte} {rest : List BusEvent} (hc : s.cfg.accepted = true)
    (hp : s.pending = (Stmt.op .chkAdd [(b.toNat : Int)]).events s.cfg.base ++ rest) :
    ∃ t, core.run 2 s = .next t ∧ t.cfg = s.cfg ∧ t.pending = rest ∧ t.acc = s.acc ^^^ b ∧
      t.accN = true := by
  have hoperand : byteOperand (valueWord (b.toNat : Int)) = b := by
    rw [valueWord_toNat_byte, byteOperand_setWidth]
  refine ⟨_, (statementRunsOperation s .chkAdd _ rest hc (by simp) hp).trans (exec_chkAdd _),
    rfl, rfl, ?_, rfl⟩
  exact congrArg (s.acc ^^^ ·) hoperand

/-- R462, R313: the statement CHK_RD with a byte accumulated. -/
theorem run_chkRd {s : State} {rest : List BusEvent} (hc : s.cfg.accepted = true)
    (hp : s.pending = (Stmt.op .chkRd []).events s.cfg.base ++ rest) (hn : s.accN = true) :
    ∃ t, core.run 1 s = .next t ∧ t.pending = rest ∧ t.res = s.acc.setWidth 32 ∧ t.err = .none :=
  ⟨_, (statementRunsOperation s .chkRd [] rest hc (by decide) hp).trans (exec_chkRd_ok hn),
    rfl, rfl, rfl⟩

/-- R461: CHK_ADD of each byte of a sequence folds the sequence onto ACC, which is not empty when there
is a byte. -/
theorem run_chkAdds (bs : List Byte) {s : State} {rest : List BusEvent} (hc : s.cfg.accepted = true)
    (hp : s.pending = programEvents s.cfg.base
      (bs.map fun b => .op .chkAdd [(b.toNat : Int)]) ++ rest) :
    ∃ t, core.run (2 * bs.length) s = .next t ∧ t.cfg = s.cfg ∧ t.pending = rest ∧
      t.acc = xorFrom s.acc bs ∧ (bs ≠ [] ∨ s.accN = true → t.accN = true) := by
  induction bs generalizing s with
  | nil => exact ⟨s, rfl, rfl, hp, rfl, fun h => h.resolve_left (· rfl)⟩
  | cons b bs ih =>
    obtain ⟨u, hrun, hcfg, hpend, hacc, hn⟩ := run_chkAdd hc (hp.trans (List.append_assoc ..))
    obtain ⟨t, hrun', hcfg', hpend', hacc', hn'⟩ := ih (hcfg ▸ hc) (hcfg ▸ hpend)
    refine ⟨t, ?_, hcfg'.trans hcfg, hpend', ?_, fun _ => hn' (.inr hn)⟩
    · rw [List.length_cons, Nat.mul_succ, Nat.add_comm, run_add hrun, hrun']
    · rw [hacc', hacc]
      rfl

/-- Settles O30: the run clears the accumulator, folds the bytes onto it and reads it out; the XOR it
holds is that of every permutation. -/
theorem streamedChecksumIgnoresOrder : Obligations.StreamedChecksumIgnoresOrder := by
  intro s bs bs' hc hne hperm hp
  rw [programEvents_append, programEvents_append, programEvents_singleton, programEvents_singleton,
    List.append_assoc] at hp
  obtain ⟨u, hclr, hcfg, hpend, hacc⟩ := run_chkClr hc hp
  obtain ⟨v, hadds, hcfg', hpend', hacc', hn⟩ := run_chkAdds bs (hcfg ▸ hc) (hcfg ▸ hpend)
  have hpend'' : v.pending = (Stmt.op .chkRd []).events v.cfg.base ++ [] := by
    rw [hpend', hcfg', hcfg, List.append_nil]
  obtain ⟨t, hrd, hpendt, hres, herr⟩ := run_chkRd (hcfg' ▸ hcfg ▸ hc) hpend'' (hn (.inl hne))
  have hxor : v.acc = bs'.foldr (· ^^^ ·) 0#8 := by
    rw [hacc', hacc, xorFrom_eq, xorAll_perm hperm]
    exact BitVec.zero_xor
  refine ⟨t, ?_, hxor ▸ hres, herr, hpendt⟩
  calc core.run (2 * bs.length + 2) s
      = core.run (1 + (2 * bs.length + 1)) s := by rw [Nat.add_comm 1]
    _ = core.run (2 * bs.length + 1) u := run_add hclr _
    _ = core.run 1 v := run_add hadds 1
    _ = .next t := hrd

/-! ### LDIN -/

/-- R203: the host writes of the first `n` words of IN, with `f i` in the lane of byte `i`. -/
def inWordWrites (f : Nat → Byte) (n : Nat) : List (Nat × Word) :=
  (List.range n).map fun k => (0x100 + 4 * k, packedWord f k)

/-- R201: the words of IN are registers other than CMD. -/
theorem inWordWrites_offset {f : Nat → Byte} {n : Nat} (hn : n ≤ 64) {w : Nat × Word}
    (hw : w ∈ inWordWrites f n) : w.1 < 0x200 ∧ w.1 % 4 = 0 ∧ w.1 ≠ 0 := by
  obtain ⟨k, hk, rfl⟩ := List.mem_map.mp hw
  have hlt : k < n := List.mem_range.mp hk
  dsimp only
  omega

/-- R313: the words of LDIN are the packed words of its bytes, the missing bytes 0. -/
theorem ldinWords_eq (k : Nat) (bs : List Byte) :
    ldinWords k bs = (List.range ((bs.length + 3) / 4)).map fun j =>
      (0x100 + 4 * (k + j), packedWord (fun i => bs.getD i 0) j) := by
  induction k, bs using ldinWords.induct with
  | case1 | case2 | case3 | case4 => simp [ldinWords, packedWord]
  | case5 k b0 b1 b2 b3 rest ih =>
    have hcount : ((b0 :: b1 :: b2 :: b3 :: rest).length + 3) / 4 = (rest.length + 3) / 4 + 1 := by
      simp only [List.length_cons]
      omega
    rw [ldinWords, ih, hcount, List.range_succ_eq_map, List.map_cons, List.map_map]
    congr 1
    refine List.map_congr_left fun j _ => ?_
    have hoff : 0x100 + 4 * (k + 1 + j) = 0x100 + 4 * (k + (j + 1)) := by omega
    simp only [Function.comp_apply, hoff]
    rfl

/-- R313: the accesses of LDIN: its words from the start of IN on, then IN_LEN. -/
theorem Stmt.writes_ldin (bs : List Byte) :
    (Stmt.ldin bs).writes =
      inWordWrites (fun i => bs.getD i 0) ((bs.length + 3) / 4) ++
        [(0x010, BitVec.ofNat 32 bs.length)] := by
  rw [Stmt.writes, ldinWords_eq, inWordWrites]
  simp only [Nat.zero_add]

/-- R116: host writes do not change the parameters. -/
theorem State.takeWrites_cfg (s : State) (ws : List (Nat × Word)) : (s.takeWrites ws).cfg = s.cfg := by
  induction ws generalizing s with
  | nil => rfl
  | cons w ws ih => exact (ih _).trans (State.writeRegister_cfg s.tick w.1 w.2)

/-- R210: host writes in a row may be cut in two. -/
theorem State.takeWrites_append (s : State) (ws ws' : List (Nat × Word)) :
    s.takeWrites (ws ++ ws') = (s.takeWrites ws).takeWrites ws' :=
  List.foldl_append

/-- R203: after the writes of the first words of IN their bytes below IN_MAX are written, and every
other byte is as it was. -/
theorem State.read_takeWrites_inWordWrites (s : State) (f : Nat → Byte) {n : Nat} (hn : n ≤ 64)
    (i : Nat) :
    (s.takeWrites (inWordWrites f n)).inBuf.read i =
      if i < s.cfg.inMax ∧ i < 4 * n then some (f i) else s.inBuf.read i := by
  induction n with
  | zero => simp [inWordWrites, State.takeWrites]
  | succ n ih =>
    have hsplit : inWordWrites f (n + 1) = inWordWrites f n ++ [(0x100 + 4 * n, packedWord f n)] := by
      rw [inWordWrites, List.range_succ, List.map_append]
      rfl
    have hlast (t : State) : (t.takeWrites [(0x100 + 4 * n, packedWord f n)]) =
        t.tick.writeInWord n (packedWord f n) := State.writeRegister_inWord t.tick _ hn
    rw [hsplit, State.takeWrites_append, hlast, State.read_writeInWord, State.tick_cfg,
      State.takeWrites_cfg, State.tick_inBuf, ih (by omega)]
    by_cases hlane : i < s.cfg.inMax ∧ 4 * n ≤ i ∧ i < 4 * n + 4
    · obtain ⟨hmax, hlo, hhi⟩ := hlane
      rw [if_pos ⟨hmax, hlo, hhi⟩, if_pos ⟨hmax, by omega⟩, laneByte_packedWord f n (by omega),
        Nat.add_sub_cancel' hlo]
    · rw [if_neg hlane]
      exact if_congr (by omega) rfl rfl

/-- R110: the host has loaded this sequence: IN_LEN is its length, and each of its bytes is written,
none free. -/
structure State.Loaded (s : State) (bs : List Byte) : Prop where
  length : s.inLen.toNat = bs.length
  written : ∀ (i : Nat) (h : i < bs.length), s.inBuf.read i = some bs[i]

/-- A sequence that is loaded is what IN holds. -/
theorem State.Loaded.holds {s : State} {bs : List Byte} (h : s.Loaded bs) : s.Holds bs :=
  ⟨h.length, fun i hi => State.inByte_written (h.written i hi)⟩

/-- R110, R313: the writes of LDIN load a sequence of at most IN_MAX bytes. -/
theorem State.loaded_takeWrites_ldin {s : State} {bs : List Byte} (hc : s.cfg.accepted = true)
    (hlen : bs.length ≤ s.cfg.inMax) : (s.takeWrites (Stmt.ldin bs).writes).Loaded bs := by
  have hmax : s.cfg.inMax ≤ 256 := inMax_le_of_accepted hc
  have hinLen (t : State) (v : Word) : t.takeWrites [(0x010, v)] = t.tick.setInLen v := rfl
  rw [Stmt.writes_ldin, State.takeWrites_append, hinLen]
  constructor
  · rw [State.setInLen_inLen, State.tick_cfg, State.takeWrites_cfg, BitVec.toNat_ofNat,
      BitVec.toNat_ofNat, Nat.mod_eq_of_lt (a := bs.length) (by omega), Nat.min_eq_left hlen,
      Nat.mod_eq_of_lt (by omega)]
  · intro i hi
    rw [State.setInLen_inBuf, State.tick_inBuf, State.read_takeWrites_inWordWrites _ _ (by omega),
      if_pos ⟨by omega, by omega⟩, List.getD_eq_getElem _ _ hi]

/-- R313: the statement LDIN takes one step for each four bytes and one for IN_LEN. -/
theorem run_ldin {s : State} {bs : List Byte} {rest : List BusEvent} (hc : s.cfg.accepted = true)
    (hlen : bs.length ≤ s.cfg.inMax) (hp : s.pending = (Stmt.ldin bs).events s.cfg.base ++ rest) :
    ∃ t, core.run ((bs.length + 3) / 4 + 1) s = .next t ∧ t.cfg = s.cfg ∧ t.pending = rest ∧
      t.Loaded bs := by
  have hmax : s.cfg.inMax ≤ 256 := inMax_le_of_accepted hc
  have hcount : (Stmt.ldin bs).writes.length = (bs.length + 3) / 4 + 1 := by
    simp [Stmt.writes_ldin, inWordWrites]
  have hoff : ∀ w ∈ (Stmt.ldin bs).writes, w.1 < 0x200 ∧ w.1 % 4 = 0 ∧ w.1 ≠ 0 := by
    intro w hw
    rw [Stmt.writes_ldin, List.mem_append, List.mem_singleton] at hw
    obtain hw | rfl := hw
    · exact inWordWrites_offset (by omega) hw
    · simp
  have hload := State.loaded_takeWrites_ldin hc hlen
  have hrun := run_writes (Stmt.ldin bs).writes rest 0 s hc hoff
  rw [hcount] at hrun
  exact ⟨_, (congrArg (fun es => core.run _ (s.setPending es)) hp).trans hrun,
    s.takeWrites_cfg _, rfl, ⟨hload.length, hload.written⟩⟩

/-- R463, R313: the statement CHK_SEQ with a non-empty sequence loaded. -/
theorem run_chkSeq {s : State} {bs : List Byte} {rest : List BusEvent} (hc : s.cfg.accepted = true)
    (hp : s.pending = (Stmt.op .chkSeq []).events s.cfg.base ++ rest) (hload : s.Loaded bs)
    (hne : bs ≠ []) :
    ∃ t, core.run 1 s = .next t ∧ t.pending = rest ∧
      t.res = (bs.foldr (· ^^^ ·) 0#8).setWidth 32 ∧ t.err = .none := by
  have hstep := statementRunsOperation s .chkSeq [] rest hc (by decide) hp
  exact ⟨_, hstep.trans (exec_chkSeq_of_holds (State.Loaded.holds ⟨hload.length, hload.written⟩) hne),
    rfl, rfl, rfl⟩

/-- Settles O31: LDIN loads the sequence, and CHK_SEQ puts out its XOR, which is that of every
permutation. -/
theorem sequenceChecksumIgnoresOrder : Obligations.SequenceChecksumIgnoresOrder := by
  intro s bs bs' hc hne hlen hperm hp
  obtain ⟨u, hldin, hcfg, hpend, hload⟩ := run_ldin hc hlen hp
  obtain ⟨t, hseq, hpendt, hres, herr⟩ := run_chkSeq (hcfg ▸ hc) (hcfg ▸ hpend) hload hne
  exact ⟨t, (run_add hldin 1).trans hseq, xorAll_perm hperm ▸ hres, herr, hpendt⟩

end Sys2Proof.Machine

namespace Sys2Proof.Machine

/-! ### How a frame operation ends

R500, R501: a frame operation builds a frame or fails. What either end leaves as it was and what it
reports is said once, for every command number and payload. -/

/-- R500: an operation that builds a frame leaves everything but OUT, RES and the status as it was. -/
theorem exec_build_frame {i : Instr} {s : State} {cmd : Byte} {p : List Byte}
    (h : exec i s = .next (s.build cmd p)) :
    let t := s.build cmd p
    SameInputs s t ∧ SameHidden s t ∧ t.res2 = s.res2 :=
  ⟨exec_sameInputs h, (((SameHidden.refl s).setOut _).setRes _).done, rfl⟩

/-- R501: so does one that fails to build. -/
theorem exec_failBuild_frame {i : Instr} {s : State} {e : ErrKind} {arg : ErrArg}
    (h : exec i s = .next (s.failBuild e arg)) :
    let t := s.failBuild e arg
    SameInputs s t ∧ SameHidden s t ∧ t.res2 = s.res2 :=
  ⟨exec_sameInputs h, (((SameHidden.refl s).setOut []).setRes 0).raise e arg, rfl⟩

/-- R501: what a failed build reports. -/
theorem State.failBuild_reports (s : State) (e : ErrKind) (arg : ErrArg) :
    let t := s.failBuild e arg
    t.outLen = 0 ∧ t.res = 0 ∧ EndsRaised e arg t :=
  ⟨rfl, rfl, endsRaised_raise _ e arg⟩

/-- R500, R305: what a build reports: the start marker, the command number and the escaped payload, which
are `front`, then the checksum and the end marker. -/
theorem State.build_reports (s : State) (cmd : Byte) {p front : List Byte} {lrc : Byte}
    (hlen : p.length ≤ 5) (hlrc : frameLrc cmd p = lrc)
    (hfront : [0x02#8, cmd] ++ escAll s.cfg p = front) :
    let t := s.build cmd p
    t.out = front ++ (if s.cfg.escChk then esc s.cfg lrc else [lrc]) ++ [0x03#8] ∧
      t.outLen.toNat = t.out.length ∧ t.res.toNat = lrc.toNat ∧ EndsDone s t := by
  subst hlrc hfront
  exact ⟨rfl, s.build_outLen_toNat cmd hlen, toNat_setWidth_byte _, endsDone_done rfl⟩

/-- R303: what the flags check turns away: a bit of 31:4 is set. -/
theorem not_flagsLegal_iff (w : Word) : flagsLegal w = false ↔ w >>> 4 ≠ 0 := by
  rw [← Bool.not_eq_true, flagsLegal_iff]

/-! ### FRM_JOG and FRM_STOP -/

/-- R510: what the jog frame of three operands reports. -/
theorem State.build_jog_reports (s : State) (a b c : Word) :
    let t := s.build cmdJog ([byteOperand a] ++ le16 (s32 b) ++ le16 (s32 c))
    ∃ lrc : Byte,
      lrc = 0x31#8 ^^^ a.setWidth 8 ^^^ b.extractLsb' 0 8 ^^^ b.extractLsb' 8 8 ^^^
        c.extractLsb' 0 8 ^^^ c.extractLsb' 8 8 ∧
      t.out = [0x02#8, 0x31#8] ++ esc s.cfg (a.setWidth 8) ++
        esc s.cfg (b.extractLsb' 0 8) ++ esc s.cfg (b.extractLsb' 8 8) ++
        esc s.cfg (c.extractLsb' 0 8) ++ esc s.cfg (c.extractLsb' 8 8) ++
        (if s.cfg.escChk then esc s.cfg lrc else [lrc]) ++ [0x03#8] ∧
      t.outLen.toNat = t.out.length ∧ t.res.toNat = lrc.toNat ∧ EndsDone s t := by
  rw [byteOperand_eq, le16_s32, le16_s32]
  exact ⟨_, rfl, s.build_reports cmdJog (by simp) rfl (by simp [escAll, cmdJog])⟩

/-- Settles O32: the flags, the pan speed and the tilt speed pass their checks, or one of them is the
first that does not. -/
theorem frmJogBuildsFrameOrReports : Obligations.FrmJogBuildsFrameOrReports := by
  refine ⟨decode_encode .frmJog, fun s => ?_⟩
  cases hflags : flagsLegal s.argA with
  | false =>
    have hstep := exec_frmJog_flags hflags
    obtain ⟨hin, hhidden, hres2⟩ := exec_failBuild_frame hstep
    have hbits : s.argA >>> 4 ≠ 0 := (not_flagsLegal_iff _).mp hflags
    exact ⟨_, hstep, hin, hhidden, hres2, fun hzero => absurd hzero hbits,
      fun _ => s.failBuild_reports _ _, fun hzero => absurd hzero hbits,
      fun hzero => absurd hzero hbits⟩
  | true =>
    have hbits : s.argA >>> 4 = 0 := (flagsLegal_iff _).mp hflags
    cases hpan : inInt16 (s32 s.argB) with
    | false =>
      have hstep := exec_frmJog_pan hflags hpan
      obtain ⟨hin, hhidden, hres2⟩ := exec_failBuild_frame hstep
      have hout : s.argB.toInt < -32768 ∨ 32767 < s.argB.toInt := (not_inInt16_iff _).mp hpan
      exact ⟨_, hstep, hin, hhidden, hres2, fun _ hlo hhi => by omega, fun hne => absurd hbits hne,
        fun _ _ => s.failBuild_reports _ _, fun _ hlo hhi => by omega⟩
    | true =>
      have hpanIn : -32768 ≤ s.argB.toInt ∧ s.argB.toInt ≤ 32767 := (inInt16_iff _).mp hpan
      cases htilt : inInt16 (s32 s.argC) with
      | false =>
        have hstep := exec_frmJog_tilt hflags hpan htilt
        obtain ⟨hin, hhidden, hres2⟩ := exec_failBuild_frame hstep
        have hout : s.argC.toInt < -32768 ∨ 32767 < s.argC.toInt := (not_inInt16_iff _).mp htilt
        exact ⟨_, hstep, hin, hhidden, hres2, fun _ _ _ hlo hhi => by omega,
          fun hne => absurd hbits hne, fun _ hpanOut => by omega,
          fun _ _ _ _ => s.failBuild_reports _ _⟩
      | true =>
        have hstep := exec_frmJog_ok hflags hpan htilt
        obtain ⟨hin, hhidden, hres2⟩ := exec_build_frame hstep
        have htiltIn : -32768 ≤ s.argC.toInt ∧ s.argC.toInt ≤ 32767 := (inInt16_iff _).mp htilt
        exact ⟨_, hstep, hin, hhidden, hres2, fun _ _ _ _ _ => s.build_jog_reports _ _ _,
          fun hne => absurd hbits hne, fun _ hpanOut => by omega, fun _ _ _ htiltOut => by omega⟩

/-- R511: FRM_JOG with the Stop flag and both speeds 0 builds the stop frame. -/
theorem exec_frmJog_stop {s : State} (ha : s.argA = 4) (hb : s.argB = 0) (hc : s.argC = 0) :
    exec .frmJog s = exec .frmStop s := by
  have hflags : flagsLegal s.argA = true := by
    rw [ha]
    decide
  have hspeed {v : Word} (hv : v = 0) : inInt16 (s32 v) = true := by
    rw [hv]
    decide
  rw [exec_frmJog_ok hflags (hspeed hb) (hspeed hc), ha, hb, hc]
  rfl

/-- Settles O33: the payload of the stop frame is 04 00 00 00 00. -/
theorem frmStopBuildsFrame : Obligations.FrmStopBuildsFrame := by
  refine ⟨decode_encode .frmStop, fun s => ?_⟩
  have hstep := exec_frmStop s
  obtain ⟨hin, hhidden, hres2⟩ := exec_build_frame hstep
  have hpayload : [jogStop] ++ le16 0 ++ le16 0 = [0x04#8, 0x00#8, 0x00#8, 0x00#8, 0x00#8] := by decide
  obtain ⟨hout, hcount, -, hdone⟩ := s.build_reports cmdJog (p := [jogStop] ++ le16 0 ++ le16 0)
    (lrc := 0x35#8) (by decide) (by decide) rfl
  refine ⟨_, hstep, ?_, hcount, rfl, hdone, hin, hhidden, hres2,
    fun ha hb hc => (exec_frmJog_stop ha hb hc).trans hstep⟩
  rw [hout, hpayload]
  simp [escAll, cmdJog]

/-! ### FRM_ABS and FRM_DELTA -/

/-- R512, R513, R305: in `t`, reached from `s`, the frame of a two-axis move stands in OUT and its
checksum in RES. -/
def MoveReported (s t : State) (cmd : Byte) (a b : Word) : Prop :=
  ∃ lrc : Byte,
    lrc = cmd ^^^ a.extractLsb' 0 8 ^^^ a.extractLsb' 8 8 ^^^
      b.extractLsb' 0 8 ^^^ b.extractLsb' 8 8 ∧
    t.out = [0x02#8, cmd] ++ esc s.cfg (a.extractLsb' 0 8) ++ esc s.cfg (a.extractLsb' 8 8) ++
      esc s.cfg (b.extractLsb' 0 8) ++ esc s.cfg (b.extractLsb' 8 8) ++
      (if s.cfg.escChk then esc s.cfg lrc else [lrc]) ++ [0x03#8] ∧
    t.outLen.toNat = t.out.length ∧ t.res.toNat = lrc.toNat ∧ EndsDone s t

/-- R512, R513: the build of a two-axis move reports its frame. -/
theorem moveReported_build (s : State) (cmd : Byte) (a b : Word) :
    MoveReported s (s.build cmd (le16 (s32 a) ++ le16 (s32 b))) cmd a b := by
  rw [le16_s32, le16_s32]
  exact ⟨_, rfl, s.build_reports cmd (by simp) rfl (by simp [escAll])⟩

/-- R502, R512, R513: an operation that checks A against one range, then B against another, builds the
frame of the move or reports the first axis outside its range. -/
theorem exec_move {i : Instr} {s : State} {cmd : Byte} {loA hiA loB hiB : Int}
    (hok : loA ≤ s.argA.toInt ∧ s.argA.toInt ≤ hiA → loB ≤ s.argB.toInt ∧ s.argB.toInt ≤ hiB →
      exec i s = .next (s.build cmd (le16 (s32 s.argA) ++ le16 (s32 s.argB))))
    (hfailA : s.argA.toInt < loA ∨ hiA < s.argA.toInt →
      exec i s = .next (s.failBuild .rangeError .a))
    (hfailB : loA ≤ s.argA.toInt ∧ s.argA.toInt ≤ hiA → s.argB.toInt < loB ∨ hiB < s.argB.toInt →
      exec i s = .next (s.failBuild .rangeError .b)) :
    ∃ t : State, exec i s = .next t ∧ SameInputs s t ∧ SameHidden s t ∧ t.res2 = s.res2 ∧
      (loA ≤ s.argA.toInt → s.argA.toInt ≤ hiA → loB ≤ s.argB.toInt → s.argB.toInt ≤ hiB →
        MoveReported s t cmd s.argA s.argB) ∧
      (s.argA.toInt < loA ∨ hiA < s.argA.toInt →
        t.outLen = 0 ∧ t.res = 0 ∧ EndsRaised .rangeError .a t) ∧
      (loA ≤ s.argA.toInt → s.argA.toInt ≤ hiA → s.argB.toInt < loB ∨ hiB < s.argB.toInt →
        t.outLen = 0 ∧ t.res = 0 ∧ EndsRaised .rangeError .b t) := by
  by_cases hA : loA ≤ s.argA.toInt ∧ s.argA.toInt ≤ hiA
  · by_cases hB : loB ≤ s.argB.toInt ∧ s.argB.toInt ≤ hiB
    · have hstep := hok hA hB
      obtain ⟨hin, hhidden, hres2⟩ := exec_build_frame hstep
      exact ⟨_, hstep, hin, hhidden, hres2, fun _ _ _ _ => moveReported_build s cmd _ _,
        fun hout => by omega, fun _ _ hout => by omega⟩
    · have hstep := hfailB hA (by omega)
      obtain ⟨hin, hhidden, hres2⟩ := exec_failBuild_frame hstep
      exact ⟨_, hstep, hin, hhidden, hres2, fun _ _ hlo hhi => absurd ⟨hlo, hhi⟩ hB,
        fun hout => by omega, fun _ _ _ => s.failBuild_reports _ _⟩
  · have hstep := hfailA (by omega)
    obtain ⟨hin, hhidden, hres2⟩ := exec_failBuild_frame hstep
    exact ⟨_, hstep, hin, hhidden, hres2, fun hlo hhi => absurd ⟨hlo, hhi⟩ hA,
      fun _ => s.failBuild_reports _ _, fun hlo hhi => absurd ⟨hlo, hhi⟩ hA⟩

/-- Settles O34: a two-axis move with the ranges of azimuth and elevation. -/
theorem frmAbsBuildsFrameOrReports : Obligations.FrmAbsBuildsFrameOrReports :=
  ⟨decode_encode .frmAbs, fun _ => exec_move
    (fun hA hB => exec_frmAbs_ok ((within_iff azLimit _).mpr hA) ((within_iff elLimit _).mpr hB))
    (fun hA => exec_frmAbs_azimuth ((not_within_iff azLimit _).mpr hA))
    (fun hA hB =>
      exec_frmAbs_elevation ((within_iff azLimit _).mpr hA) ((not_within_iff elLimit _).mpr hB))⟩

/-- Settles O35: a two-axis move with the range of int16 on both axes. -/
theorem frmDeltaBuildsFrameOrReports : Obligations.FrmDeltaBuildsFrameOrReports :=
  ⟨decode_encode .frmDelta, fun _ => exec_move
    (fun hA hB => exec_frmDelta_ok ((inInt16_iff _).mpr hA) ((inInt16_iff _).mpr hB))
    (fun hA => exec_frmDelta_azimuth ((not_inInt16_iff _).mpr hA))
    (fun hA hB => exec_frmDelta_elevation ((inInt16_iff _).mpr hA) ((not_inInt16_iff _).mpr hB))⟩

/-! ### FRM_ZERO, FRM_HOME and FRM_SYNC -/

/-- R514, R515, R516, R471: a frame with no payload has its command number for a checksum. -/
theorem exec_payloadFree {i : Instr} {s : State} {cmd : Byte}
    (hstep : exec i s = .next (s.build cmd [])) :
    ∃ t : State, exec i s = .next t ∧
      t.out = [0x02#8, cmd] ++ (if s.cfg.escChk then esc s.cfg cmd else [cmd]) ++ [0x03#8] ∧
      t.outLen.toNat = t.out.length ∧ t.res.toNat = cmd.toNat ∧
      EndsDone s t ∧ SameInputs s t ∧ SameHidden s t ∧ t.res2 = s.res2 := by
  have hlrc : frameLrc cmd [] = cmd := rfl
  obtain ⟨hout, hcount, hres, hdone⟩ := s.build_reports cmd (p := []) (by decide) hlrc rfl
  exact ⟨_, hstep, hout, hcount, hres, hdone, exec_build_frame hstep⟩

/-- Settles O36: each of the three builds a frame with no payload. -/
theorem payloadFreeFramesBuild : Obligations.PayloadFreeFramesBuild := by
  intro s i w cmd hmem
  simp only [List.mem_cons, Prod.mk.injEq, List.not_mem_nil, or_false] at hmem
  obtain ⟨rfl, rfl, rfl⟩ | ⟨rfl, rfl, rfl⟩ | ⟨rfl, rfl, rfl⟩ := hmem
  · exact ⟨decode_encode .frmZero, exec_payloadFree (exec_frmZero s)⟩
  · exact ⟨decode_encode .frmHome, exec_payloadFree (exec_frmHome s)⟩
  · exact ⟨decode_encode .frmSync, exec_payloadFree (exec_frmSync s)⟩

end Sys2Proof.Machine

namespace Sys2Proof.Machine

/-! ### The bits of FLAGS -/

/-- R109: bits 7:0 of FLAGS are PanStatus. -/
theorem getLsbD_flagsOf_pan (p t g : Byte) {k : Nat} (hk : k < 8) :
    (flagsOf p t g).getLsbD k = p.getLsbD k := by
  conv_rhs => rw [← flagsOf_pan p t g, BitVec.getLsbD_extractLsb']
  simp [hk]

/-- R109: bits 15:8 are TiltStatus. -/
theorem getLsbD_flagsOf_tilt (p t g : Byte) {k : Nat} (hk : k < 8) :
    (flagsOf p t g).getLsbD (8 + k) = t.getLsbD k := by
  conv_rhs => rw [← flagsOf_tilt p t g, BitVec.getLsbD_extractLsb']
  simp [hk]

/-- R109: bits 23:16 are GenStatus. -/
theorem getLsbD_flagsOf_general (p t g : Byte) {k : Nat} (hk : k < 8) :
    (flagsOf p t g).getLsbD (16 + k) = g.getLsbD k := by
  conv_rhs => rw [← flagsOf_gen p t g, BitVec.getLsbD_extractLsb']
  simp [hk]

/-- R621: the three status bytes of an operand, put into FLAGS, are its low 24 bits. -/
theorem flagsOf_triple (w : Word) :
    flagsOf (triplePan w) (tripleTilt w) (tripleGen w) = w.setWidth 24 := by
  apply BitVec.eq_of_getLsbD_eq
  intro i hi
  obtain hpan | ⟨k, hk, rfl⟩ | ⟨k, hk, rfl⟩ :
      i < 8 ∨ (∃ k, k < 8 ∧ i = 8 + k) ∨ ∃ k, k < 8 ∧ i = 16 + k := by
    by_cases hpan : i < 8
    · exact .inl hpan
    · by_cases htilt : i < 16
      · exact .inr (.inl ⟨i - 8, by omega, by omega⟩)
      · exact .inr (.inr ⟨i - 16, by omega, by omega⟩)
  · rw [getLsbD_flagsOf_pan _ _ _ hpan]
    simp [triplePan, hpan, hi]
  · rw [getLsbD_flagsOf_tilt _ _ _ hk]
    simp [tripleTilt, hk, hi]
  · rw [getLsbD_flagsOf_general _ _ _ hk]
    simp [tripleGen, hk, hi]

/-! ### The condition codes -/

/-- R311: a condition code is eight times its group plus its bit. -/
theorem condCode_toNat {g k : Nat} (hg : g < 3) (hk : k < 8) : (condCode g k).toNat = 8 * g + k := by
  rw [condCode, BitVec.toNat_ofNat, Nat.mod_eq_of_lt (by omega)]

/-- R311: the group of a code listed for a group. -/
theorem group_of_mem_groupCodes {g : Nat} {b x : Byte} (hg : g < 3) (hx : x ∈ groupCodes g b) :
    x.toNat / 8 = g := by
  obtain ⟨k, hk, -, rfl⟩ := mem_groupCodes.mp hx
  rw [condCode_toNat hg hk]
  omega

/-- R620: the code of a bit stands in the list of its own group, when the bit is set, and in no other. -/
theorem condCode_mem_groupCodes_iff {g g' k : Nat} {b : Byte} (hg : g < 3) (hg' : g' < 3) (hk : k < 8) :
    condCode g k ∈ groupCodes g' b ↔ g = g' ∧ b.getLsbD k = true := by
  refine ⟨fun hx => ?_, ?_⟩
  · obtain ⟨k', hk', hbit, hcode⟩ := mem_groupCodes.mp hx
    have hnum := congrArg BitVec.toNat hcode
    rw [condCode_toNat hg' hk', condCode_toNat hg hk] at hnum
    obtain rfl : k' = k := by omega
    exact ⟨by omega, hbit⟩
  · rintro ⟨rfl, hbit⟩
    exact mem_groupCodes.mpr ⟨k, hk, hbit, rfl⟩

/-- R620: the order of the codes: groups ascending, and bits descending within a group. -/
def CodeBefore (x y : Byte) : Prop :=
  x.toNat / 8 < y.toNat / 8 ∨ (x.toNat / 8 = y.toNat / 8 ∧ y.toNat % 8 < x.toNat % 8)

/-- R620: a higher bit of a group comes first. -/
theorem codeBefore_condCode {g j k : Nat} (hg : g < 3) (hj : j < 8) (hlt : k < j) :
    CodeBefore (condCode g j) (condCode g k) := by
  rw [CodeBefore, condCode_toNat hg hj, condCode_toNat hg (hlt.trans hj)]
  omega

/-- R620: the codes of a group come before those of a later group. -/
theorem codeBefore_of_mem_groupCodes {i j : Nat} (hij : i < j) (hj : j < 3) {b c x y : Byte}
    (hx : x ∈ groupCodes i b) (hy : y ∈ groupCodes j c) : CodeBefore x y := by
  left
  rwa [group_of_mem_groupCodes (hij.trans hj) hx, group_of_mem_groupCodes hj hy]

/-- R620: the codes of one group are in order. -/
theorem groupCodes_ordered {g : Nat} (hg : g < 3) (b : Byte) : (groupCodes g b).Pairwise CodeBefore := by
  have hbits : [7, 6, 5, 4, 3, 2, 1, 0].Pairwise fun j k => k < j ∧ j < 8 := by decide
  refine hbits.filterMap _ ?_
  rintro j k ⟨hlt, hj⟩ x hx y hy
  simp only [Option.ite_none_right_eq_some, Option.some.injEq] at hx hy
  obtain ⟨-, rfl⟩ := hx
  obtain ⟨-, rfl⟩ := hy
  exact codeBefore_condCode hg hj hlt

/-- R620: so are the codes of all three. -/
theorem condCodes_ordered (p t g : Byte) : (condCodes p t g).Pairwise CodeBefore := by
  refine List.pairwise_append.mpr ⟨List.pairwise_append.mpr ⟨groupCodes_ordered (by decide) p,
    groupCodes_ordered (by decide) t, fun x hx y hy => ?_⟩, groupCodes_ordered (by decide) g,
    fun x hx y hy => ?_⟩
  · exact codeBefore_of_mem_groupCodes (by decide) (by decide) hx hy
  · obtain hx | hx := List.mem_append.mp hx
    · exact codeBefore_of_mem_groupCodes (by decide) (by decide) hx hy
    · exact codeBefore_of_mem_groupCodes (by decide) (by decide) hx hy

/-- R620, R623: the codes of three status bytes list exactly their set bits, in order. -/
theorem codesOf_condCodes (p t g : Byte) : CodesOf p t g (condCodes p t g) where
  pan k hk := by
    have hcode : BitVec.ofNat 8 k = condCode 0 k := by rw [condCode, Nat.mul_zero, Nat.zero_add]
    simp [hcode, condCodes, condCode_mem_groupCodes_iff, hk]
  tilt k hk := by
    have hcode : BitVec.ofNat 8 (8 + k) = condCode 1 k := rfl
    simp [hcode, condCodes, condCode_mem_groupCodes_iff, hk]
  general k hk := by
    have hcode : BitVec.ofNat 8 (16 + k) = condCode 2 k := rfl
    simp [hcode, condCodes, condCode_mem_groupCodes_iff, hk]
  bounded x hx := by
    simp only [condCodes, List.mem_append] at hx
    obtain (hx | hx) | hx := hx
    all_goals
      have hgroup := group_of_mem_groupCodes (by decide) hx
      omega
  ordered := condCodes_ordered p t g

/-- R620: a group has one code for each set bit. -/
theorem groupCodes_length (g : Nat) (b : Byte) :
    (groupCodes g b).length = (List.range 8).countP b.getLsbD := by
  have hbits : [7, 6, 5, 4, 3, 2, 1, 0] = (List.range 8).reverse := rfl
  rw [groupCodes, List.length_filterMap_eq_countP, hbits, List.countP_reverse]
  congr 1
  funext k
  cases b.getLsbD k <;> rfl

/-- R623: there are as many codes as bits set in FLAGS. -/
theorem condCodes_length (p t g : Byte) :
    (condCodes p t g).length = (List.range 24).countP fun k => (flagsOf p t g).getLsbD k := by
  have hrange : List.range 24 =
      List.range 8 ++ (List.range 8).map (8 + ·) ++ (List.range 8).map (16 + ·) := rfl
  have hcount {b : Byte} {f : Nat → Bool} (hf : ∀ k, k < 8 → f k = b.getLsbD k) :
      (List.range 8).countP f = (List.range 8).countP b.getLsbD :=
    List.countP_congr fun k hk => by rw [hf k (List.mem_range.mp hk)]
  rw [hrange, List.countP_append, List.countP_append, List.countP_map, List.countP_map,
    Function.comp_def, Function.comp_def, hcount fun _ => getLsbD_flagsOf_pan p t g,
    hcount fun _ => getLsbD_flagsOf_tilt p t g, hcount fun _ => getLsbD_flagsOf_general p t g,
    condCodes, List.length_append, List.length_append, groupCodes_length, groupCodes_length,
    groupCodes_length]

/-- R112: COND_N counts the codes: they fit its five bits. -/
theorem State.decodeFlags_condN_toNat (s : State) (p t g : Byte) :
    (s.decodeFlags p t g).condN.toNat = (condCodes p t g).length := by
  have hle := condCodes_length_le p t g
  rw [State.decodeFlags_condN, BitVec.toNat_ofNat, Nat.mod_eq_of_lt (by omega)]

/-! ### RSP_PARSE and FLG_DECODE -/

/-- Settles O40: nine bytes or more are the fields, whatever their values; fewer clear the registers. -/
theorem rspParseReadsNineBytes : Obligations.RspParseReadsNineBytes := by
  refine ⟨decode_encode .rspParse, fun s => ?_⟩
  by_cases hlen : 9 ≤ s.inLen.toNat
  · have hstep := exec_rspParse_ok hlen
    refine ⟨_, hstep, exec_sameInputs hstep, ⟨rfl, rfl⟩, ⟨rfl, rfl⟩, rfl, rfl, rfl, fun _ => ?_,
      fun hshort => absurd hlen (by omega)⟩
    exact ⟨rfl, rfl, rfl, rfl, rfl, rfl, rfl, rfl, rfl, flagsOf_pan _ _ _, flagsOf_tilt _ _ _,
      flagsOf_gen _ _ _, codesOf_condCodes _ _ _, s.decodeFlags_condN_toNat _ _ _,
      endsDone_done rfl⟩
  · have hstep := exec_rspParse_short (Nat.lt_of_not_le hlen)
    exact ⟨_, hstep, exec_sameInputs hstep, ⟨rfl, rfl⟩, ⟨rfl, rfl⟩, rfl, rfl, rfl,
      fun hok => absurd hok hlen, fun _ => ⟨rfl, rfl, rfl, endsRaised_raise _ _ _⟩⟩

/-- Settles O41: the status bytes are the low three bytes of ARG_A. -/
theorem flgDecodeListsSetBits : Obligations.FlgDecodeListsSetBits := by
  refine ⟨decode_encode .flgDecode, fun s => ?_⟩
  have hstep := exec_flgDecode s
  refine ⟨_, hstep, ?_, codesOf_condCodes _ _ _, s.decodeFlags_condN_toNat _ _ _,
    endsDone_done rfl, exec_sameInputs hstep, ⟨rfl, rfl⟩, ⟨rfl, rfl⟩, rfl, rfl, rfl, rfl⟩
  rw [State.done_flags, State.decodeFlags_flags, flagsOf_triple, BitVec.toNat_setWidth]

/-- Both decoding operations end with the flags of three status bytes and the count of their codes: for a
short response R601 clears both, which is what three zero bytes decode to. -/
theorem exec_decodes_flags {i : Instr} {s t : State} (hi : i ∈ [Instr.rspParse, .flgDecode])
    (h : exec i s = .next t) :
    ∃ p q g : Byte, t.flags = flagsOf p q g ∧ t.condN.toNat = (condCodes p q g).length := by
  simp only [List.mem_cons, List.not_mem_nil, or_false] at hi
  obtain rfl | rfl := hi
  · by_cases hlen : 9 ≤ s.inLen.toNat
    · rw [exec_rspParse_ok hlen] at h
      injection h with h
      exact h ▸ ⟨_, _, _, rfl, s.decodeFlags_condN_toNat _ _ _⟩
    · rw [exec_rspParse_short (Nat.lt_of_not_le hlen), State.setCond_zero] at h
      injection h with h
      exact h ▸ ⟨0, 0, 0, rfl, rfl⟩
  · rw [exec_flgDecode] at h
    injection h with h
    exact h ▸ ⟨_, _, _, rfl, s.decodeFlags_condN_toNat _ _ _⟩

/-- Settles O42: each code stands for one set bit. -/
theorem condCountIsPopcount : Obligations.CondCountIsPopcount := by
  intro i s t hi h
  obtain ⟨p, q, g, hflags, hcount⟩ := exec_decodes_flags hi h
  rw [hflags, hcount]
  exact ⟨condCodes_length p q g, condCodes_length_le p q g⟩

/-! ### The names of the conditions -/

/-- R612: the names of one choice in a row, so that the code of a bit is its place. -/
def flagNameTable (n : FlagNames) : List Condition :=
  n.pan.map .pan ++ n.tilt.map .tilt ++ n.general.map .general

/-- R610: the conditions of all groups. -/
def allConditions : List Condition :=
  [.pan .clockwiseSoftLimit, .pan .counterClockwiseSoftLimit, .pan .clockwiseHardLimit,
    .pan .counterClockwiseHardLimit, .pan .timeout, .pan .directionError, .pan .overload,
    .pan .panResolverFault,
    .tilt .upSoftLimit, .tilt .downSoftLimit, .tilt .upHardLimit, .tilt .downHardLimit, .tilt .timeout,
    .tilt .directionError, .tilt .overload, .tilt .tiltResolverFault,
    .general .highResolutionMode, .general .executing, .general .destination,
    .general .softLimitOverride, .general (.motionDirection 0), .general (.motionDirection 1),
    .general (.motionDirection 2), .general (.motionDirection 3)]

/-- R610: that list leaves no condition out. -/
theorem mem_allConditions (c : Condition) : c ∈ allConditions := by
  cases c with
  | pan c => cases c <;> decide
  | tilt c => cases c <;> decide
  | general c =>
    cases c with
    | motionDirection which =>
      revert which
      decide
    | highResolutionMode | executing | destination | softLimitOverride => decide

/-- R612, group by group: what an allowed choice is. -/
theorem flagNames_wf_iff (n : FlagNames) :
    n.wf = true ↔ (n.pan.length = 8 ∧ n.tilt.length = 8 ∧ n.general.length = 8) ∧
      (n.pan.Nodup ∧ n.tilt.Nodup ∧ n.general.Nodup) ∧ n.pan[7]? = some .clockwiseSoftLimit := by
  simp only [FlagNames.wf, Bool.and_eq_true, decide_eq_true_eq]
  tauto

section Names

variable {n : FlagNames}

/-- R612: each group of an allowed choice names eight bits. -/
theorem flagNameTable_length (h : n.wf = true) : (flagNameTable n).length = 24 := by
  obtain ⟨⟨hpan, htilt, hgeneral⟩, -⟩ := (flagNames_wf_iff n).mp h
  simp [flagNameTable, hpan, htilt, hgeneral]

/-- R612: an allowed choice gives no name twice, within a group or across groups. -/
theorem flagNameTable_nodup (h : n.wf = true) : (flagNameTable n).Nodup := by
  obtain ⟨-, ⟨hpan, htilt, hgeneral⟩, -⟩ := (flagNames_wf_iff n).mp h
  have hpan' := hpan.map (f := Condition.pan) fun _ _ => Condition.pan.inj
  have htilt' := htilt.map (f := Condition.tilt) fun _ _ => Condition.tilt.inj
  have hgeneral' := hgeneral.map (f := Condition.general) fun _ _ => Condition.general.inj
  refine List.nodup_append.mpr ⟨List.nodup_append.mpr ⟨hpan', htilt', ?_⟩, hgeneral', ?_⟩
  · simp
  · simp [or_imp, forall_and]

/-- R612: 24 names without a repeat out of 24 conditions are all of them. -/
theorem mem_flagNameTable (h : n.wf = true) (c : Condition) : c ∈ flagNameTable n := by
  have hsub : (flagNameTable n).Subperm allConditions :=
    (flagNameTable_nodup h).subperm fun c _ => mem_allConditions c
  have hle : allConditions.length ≤ (flagNameTable n).length := (flagNameTable_length h).ge
  exact (hsub.perm_of_length_le hle).mem_iff.mpr (mem_allConditions c)

/-- R611, R612: under an allowed choice a code's name is the entry of the table at the code. -/
theorem conditionName_eq_getElem? (h : n.wf = true) (code : Byte) :
    conditionName n code = (flagNameTable n)[code.toNat]? := by
  obtain ⟨⟨hpan, htilt, hgeneral⟩, -⟩ := (flagNames_wf_iff n).mp h
  simp only [conditionName, flagNameTable, List.getElem?_append, List.length_append, List.length_map,
    hpan, htilt, List.getElem?_map]
  split
  next hgroup =>
    have hlt : code.toNat < 8 := by omega
    rw [if_pos (by omega), if_pos hlt, Nat.mod_eq_of_lt hlt]
  next hgroup =>
    rw [if_pos (by omega), if_neg (by omega), show code.toNat % 8 = code.toNat - 8 by omega]
  next hgroup =>
    rw [if_neg (by omega), show code.toNat % 8 = code.toNat - (8 + 8) by omega]
  next hne0 hne1 hne2 =>
    simp only [imp_false] at hne0 hne1 hne2
    have hge : 8 ≤ code.toNat - (8 + 8) := by omega
    rw [if_neg (by omega), List.getElem?_eq_none (hgeneral.trans_le hge)]
    rfl

/-- R611: code 7, PanStatus bit 7, names the clockwise soft limit. -/
theorem conditionName_seven (h : n.wf = true) : conditionName n 7#8 = some (.pan .clockwiseSoftLimit) := by
  obtain ⟨-, -, hseven⟩ := (flagNames_wf_iff n).mp h
  simp [conditionName, hseven]

/-- The pan conditions of two runs of names are those of the first, then those of the second. -/
theorem panNames_append (xs ys : List (Option Condition)) :
    panNames (xs ++ ys) = panNames xs ++ panNames ys :=
  List.filterMap_append

/-- R610: the codes of the other two groups name no pan condition. -/
theorem panNames_groupCodes {g : Nat} (hpos : 0 < g) (hg : g < 3) (b : Byte) :
    panNames ((groupCodes g b).map (conditionName n)) = [] := by
  refine List.filterMap_eq_nil_iff.mpr fun name hname => ?_
  obtain ⟨x, hx, rfl⟩ := List.mem_map.mp hname
  have hgroup := group_of_mem_groupCodes hg hx
  obtain rfl | rfl : g = 1 ∨ g = 2 := by omega
  · simp only [conditionName, hgroup]
    cases n.tilt[x.toNat % 8]? <;> rfl
  · simp only [conditionName, hgroup]
    cases n.general[x.toNat % 8]? <;> rfl

end Names

/-- Settles O44: the table of an allowed choice lists every condition once. -/
theorem flagNamesAreBijective : Obligations.FlagNamesAreBijective := by
  refine fun names h => ⟨fun c => ?_, fun code => ?_⟩
  · obtain ⟨k, hk, hc⟩ := List.mem_iff_getElem.mp (mem_flagNameTable h c)
    have hk24 : k < 24 := flagNameTable_length h ▸ hk
    have hcode : (BitVec.ofNat 8 k).toNat = k := by
      rw [BitVec.toNat_ofNat, Nat.mod_eq_of_lt (by omega)]
    have hname : (flagNameTable names)[k]? = some c := hc ▸ List.getElem?_eq_getElem hk
    refine ⟨BitVec.ofNat 8 k, hcode.symm ▸ hk24, ?_, fun code' hcode' => ?_⟩
    · rw [conditionName_eq_getElem? h, hcode, hname]
    · rw [conditionName_eq_getElem? h, ← hname] at hcode'
      apply BitVec.eq_of_toNat_eq
      rw [hcode]
      exact ((List.getElem?_inj hk (flagNameTable_nodup h)).mp hcode'.symm).symm
  · simp [conditionName_eq_getElem? h, flagNameTable_length h]

/-- Settles O43: the only pan code of such a response is 7, and no code of another group is a pan
condition. -/
theorem clockwiseSoftLimitIsNamed : Obligations.ClockwiseSoftLimitIsNamed := by
  intro s names h hlen hpan
  have hgroup : groupCodes 0 (s.inByte 4) = [7#8] := by
    rw [hpan]
    decide
  refine ⟨_, exec_rspParse_ok hlen, rfl, ?_, fun htilt hgeneral => ?_⟩
  all_goals rw [State.conditions, State.done_cond, State.decodeFlags_cond, condCodes, hgroup]
  · rw [List.map_append, List.map_append, panNames_append, panNames_append,
      panNames_groupCodes (by decide) (by decide), panNames_groupCodes (by decide) (by decide)]
    simp [panNames, conditionName_seven h]
  · have hnone (g : Nat) : groupCodes g 0#8 = [] := by simp [groupCodes]
    rw [htilt, hgeneral, hnone, hnone]
    simp [conditionName_seven h]

end Sys2Proof.Machine

namespace Sys2Proof.Machine

/-! ### The ends of an operation

R710: an operation ends by `done` or by `raise`. The ends by `raise` are four, each with the registers
that the operation's rule writes before it raises; what R701, R711 and R713 say of all operations is read
off them. -/

/-- R501, R420, R462, R463, R601: an operation ends done, or it is a failed build, DEC16 out of bytes, a
checksum of no bytes, or a short response. -/
theorem exec_ends_cases {i : Instr} {s t : State} (h : exec i s = .next t) :
    EndsDone s t ∨
    (∃ e arg, t = s.failBuild e arg ∧
      (e = .rangeError ∧ i ∈ [Instr.enc16, .frmJog, .frmAbs, .frmDelta] ∨
        e = .invalidArgument ∧ i = .frmJog)) ∨
    (i = .dec16 ∧ t = ((s.setRes 0).setRes2 0).raise .malformedResponse .none) ∨
    (i ∈ [Instr.chkRd, .chkSeq] ∧ t = (s.setRes 0).raise .invalidArgument .none) ∨
    (i = .rspParse ∧ t = ((s.setRsp Response.zero).setCond 0 []).raise .malformedResponse .none) := by
  rcases exec_cases h with ⟨-, b, rfl⟩ | ⟨-, v, n, p, rfl⟩ | ⟨-, rfl⟩ | ⟨-, v, w, rfl⟩ |
    ⟨hi, arg, rfl⟩ | ⟨hi, rfl⟩ | ⟨-, v, n, rfl⟩ | hfield | ⟨-, rfl⟩ | ⟨-, x, rfl⟩ | ⟨-, v, rfl⟩ |
    hnoBytes | ⟨cmd, p, rfl, -⟩ | ⟨-, r, p, q, g, rfl⟩ | hshort | ⟨-, p, q, g, rfl⟩
  · exact .inl (endsDone_done rfl)
  · exact .inl (endsDone_done rfl)
  · exact .inl (endsDone_done rfl)
  · exact .inl (endsDone_done rfl)
  · exact .inr (.inl ⟨_, arg, rfl, .inl ⟨rfl, hi⟩⟩)
  · exact .inr (.inl ⟨_, .a, rfl, .inr ⟨rfl, hi⟩⟩)
  · exact .inl (endsDone_done rfl)
  · exact .inr (.inr (.inl hfield))
  · exact .inl (endsDone_done rfl)
  · exact .inl (endsDone_done rfl)
  · exact .inl (endsDone_done rfl)
  · exact .inr (.inr (.inr (.inl hnoBytes)))
  · exact .inl (endsDone_done rfl)
  · exact .inl (endsDone_done rfl)
  · exact .inr (.inr (.inr (.inr hshort)))
  · exact .inl (endsDone_done rfl)

/-- R710: the two ways to end; a `raise` always names an error. -/
def EndsDoneOrRaised (s t : State) : Prop :=
  EndsDone s t ∨ ∃ e arg, e ≠ .none ∧ EndsRaised e arg t

/-- R710: every operation ends in one of the two ways. -/
theorem exec_endsDoneOrRaised {i : Instr} {s t : State} (h : exec i s = .next t) :
    EndsDoneOrRaised s t := by
  obtain hdone | ⟨e, arg, rfl, hkind⟩ | ⟨-, rfl⟩ | ⟨-, rfl⟩ | ⟨-, rfl⟩ := exec_ends_cases h
  · exact .inl hdone
  · have he : e ≠ .none := by
      obtain ⟨rfl, -⟩ | ⟨rfl, -⟩ := hkind <;> decide
    exact .inr ⟨e, arg, he, endsRaised_raise _ e arg⟩
  · exact .inr ⟨_, _, by decide, endsRaised_raise _ _ _⟩
  · exact .inr ⟨_, _, by decide, endsRaised_raise _ _ _⟩
  · exact .inr ⟨_, _, by decide, endsRaised_raise _ _ _⟩

/-- R713: `done` leaves ERR_STICKY as it was and `raise` sets it. -/
theorem EndsDoneOrRaised.errSticky_iff {s t : State} (h : EndsDoneOrRaised s t) :
    t.errSticky = true ↔ (s.errSticky = true ∨ t.err ≠ .none) := by
  obtain hdone | ⟨e, arg, he, hraised⟩ := h
  · simp [hdone.err, hdone.errSticky]
  · simp [hraised.err, hraised.errSticky, he]

/-- R710: only `raise` blames an operand. -/
theorem EndsDoneOrRaised.err_of_errArg {s t : State} (h : EndsDoneOrRaised s t)
    (harg : t.errArg ≠ .none) : t.err ≠ .none := by
  obtain hdone | ⟨e, arg, he, hraised⟩ := h
  · exact absurd hdone.errArg harg
  · exact hraised.err.symm ▸ he

/-! ### Rules over all operations -/

/-- Settles O46: every operation answers a next state and writes none of its inputs. -/
theorem everyOperationCompletes : Obligations.EveryOperationCompletes := by
  intro i s
  obtain ⟨t, ht⟩ := exec_answers_next i s
  exact ⟨t, ht, exec_sameInputs ht⟩

/-- Settles O47: `done` reports no error, and each of the ends by `raise` names its operations. -/
theorem errorKindsByOperation : Obligations.ErrorKindsByOperation := by
  intro i s t h
  obtain hdone | ⟨e, arg, rfl, ⟨rfl, hi⟩ | ⟨rfl, rfl⟩⟩ | ⟨rfl, rfl⟩ | ⟨hi, rfl⟩ | ⟨rfl, rfl⟩ :=
    exec_ends_cases h
  · simp [hdone.err]
  · exact ⟨fun _ => hi, nofun, nofun, nofun⟩
  · exact ⟨nofun, fun _ => by decide, nofun, nofun⟩
  · exact ⟨nofun, nofun, fun _ => by decide, nofun⟩
  · have hsub : [Instr.chkRd, .chkSeq] ⊆ [Instr.chkRd, .chkSeq, .frmJog] := by decide
    exact ⟨nofun, fun _ => hsub hi, nofun, nofun⟩
  · exact ⟨nofun, nofun, fun _ => by decide, nofun⟩

/-- Settles O50: `done` or `raise`. -/
theorem stickyRecordsEveryError : Obligations.StickyRecordsEveryError := by
  intro i s t h
  have hend : EndsDoneOrRaised s t := exec_endsDoneOrRaised h
  exact ⟨hend.errSticky_iff, hend.err_of_errArg⟩

/-! ### Illegal words -/

/-- R705: an illegal word changes CMD_LAST and the status fields. -/
theorem State.performCommand_of_decode_error (s : State) {w : Word} {e : DecodeError}
    (h : decode w = .error e) :
    s.performCommand w =
      .next { s with cmdLast := w, err := .illegalOp, errArg := .none, errSticky := true } := by
  rw [State.performCommand, h]
  rfl

/-- Settles O4: the step is the CMD write, and the word is illegal. -/
theorem illegalWordRaisesIllegalOp : Obligations.IllegalWordRaisesIllegalOp := by
  intro s w e rest hc hp hd
  rw [step_command hc hp, State.performCommand_of_decode_error _ hd]
  rfl

/-- Settles O48: each end by `raise` writes what its rule names before it raises. -/
theorem errorsArePrecise : Obligations.ErrorsArePrecise := by
  refine ⟨fun s w e => s.performCommand_of_decode_error, fun i s t h herr => ?_⟩
  have hin : SameInputs s t := exec_sameInputs h
  obtain hdone | ⟨e, arg, rfl, hkind⟩ | ⟨rfl, rfl⟩ | ⟨hi, rfl⟩ | ⟨rfl, rfl⟩ := exec_ends_cases h
  · exact absurd hdone.err herr
  · -- a failed build: OUT and OUT_LEN, RES
    have hi : i ∈ buildingOps := by
      have hsub : [Instr.enc16, .frmJog, .frmAbs, .frmDelta] ⊆ buildingOps := by decide
      obtain ⟨-, hi⟩ | ⟨-, rfl⟩ := hkind
      · exact hsub hi
      · decide
    exact ⟨hin, ⟨rfl, rfl⟩, rfl, rfl, fun hno => absurd hi hno, fun _ => rfl,
      fun hno => absurd hi hno, fun _ => rfl, fun _ => ⟨rfl, rfl, rfl, rfl⟩⟩
  · -- DEC16 out of bytes: RES and RES2
    exact ⟨hin, ⟨rfl, rfl⟩, rfl, rfl, fun _ => ⟨rfl, rfl⟩, fun hyes => absurd hyes (by decide),
      fun _ hno => absurd (by decide) hno, fun hno => absurd rfl hno, fun _ => ⟨rfl, rfl, rfl, rfl⟩⟩
  · -- a checksum of no bytes: RES
    have hbuild : i ∉ buildingOps := by
      have hdisj : ∀ j ∈ [Instr.chkRd, .chkSeq], j ∉ buildingOps := by decide
      exact hdisj i hi
    exact ⟨hin, ⟨rfl, rfl⟩, rfl, rfl, fun _ => ⟨rfl, rfl⟩, fun hyes => absurd hyes hbuild,
      fun _ hno => absurd (List.mem_cons_of_mem _ hi) hno, fun _ => rfl, fun _ => ⟨rfl, rfl, rfl, rfl⟩⟩
  · -- a short response: the response registers, FLAGS, COND and COND_N
    exact ⟨hin, ⟨rfl, rfl⟩, rfl, rfl, fun _ => ⟨rfl, rfl⟩, fun hyes => absurd hyes (by decide),
      fun _ _ => rfl, fun _ => rfl, fun hno => absurd rfl hno⟩

/-! ### ERR_STICKY over the host's accesses -/

/-- R710, R705: a write to CMD ends in one of the two ways, also when the word is illegal. -/
theorem State.performCommand_endsDoneOrRaised {s t : State} {w : Word}
    (h : s.performCommand w = .next t) : EndsDoneOrRaised s t := by
  obtain ⟨i, -, hrun⟩ | ⟨-, hillegal⟩ := s.performCommand_cases w
  · rw [hrun] at h
    obtain hdone | hraised := exec_endsDoneOrRaised h
    · exact .inl ⟨hdone.err, hdone.errArg, hdone.errSticky⟩
    · exact .inr hraised
  · rw [hillegal] at h
    injection h with h
    exact h ▸ .inr ⟨_, _, by decide, endsRaised_raise _ _ _⟩

/-- R204, R713: among the writes of registers other than CMD, one of STATUS with bit 8 set clears
ERR_STICKY, and no other touches it. -/
theorem State.writeRegister_errSticky (s : State) (off : Nat) (v : Word) :
    (s.writeRegister off v).errSticky = true ↔
      s.errSticky = true ∧ ¬(off = 0x014 ∧ v.getLsbD 8 = true) := by
  by_cases hstatus : off = 0x014
  · subst hstatus
    rw [State.writeRegister_status, State.writeStatus_errSticky]
    cases v.getLsbD 8 <;> simp
  · have hother := s.writeRegister_cases off v
    simp only [hstatus, false_and, false_or] at hother
    obtain e | e | e | e | e | e := hother <;> simp [e, hstatus]

/-- Settles O51, by the cases of a step: a reset clears, a read leaves, a write of another register
clears at most, and a write of CMD records. -/
theorem stickyLastsFromErrorToClear : Obligations.StickyLastsFromErrorToClear := by
  intro s t e rest hp h
  obtain ⟨-, ⟨hnone, -⟩ | ⟨e', rest', hp', hevent⟩⟩ := step_cases h
  · simp [hp] at hnone
  obtain ⟨rfl, rfl⟩ : e = e' ∧ rest = rest' := by simpa [hp] using hp'
  obtain ⟨rfl, rfl⟩ | ⟨off, rfl, -, -, rfl⟩ | ⟨off, v, rfl, -, -, hcmd, rfl⟩ | ⟨w, rfl, ht⟩ := hevent
  · simp [State.externalReset, State.resetWith]
  · simp
  · rw [State.writeRegister_errSticky]
    simp [hcmd]
  · have hend := State.performCommand_endsDoneOrRaised ht
    simpa using hend.errSticky_iff

end Sys2Proof.Machine

namespace Sys2Proof.Machine

/-! ### The idle block and the external reset -/

/-- Settles O5: with nothing pending a step takes the first branch of R801. -/
theorem idleBlockStays : Obligations.IdleBlockStays := by
  intro s hc hp
  simp only [step, hc, hp, if_true]

/-- Settles O15: the pending event is the reset, which R800 gives no condition. -/
theorem externalResetFromAnyState : Obligations.ExternalResetFromAnyState := by
  intro s rest hc hp
  rw [step_cons hc hp]
  rfl

/-! ### What may be sent -/

/-- R813: after an operation without error that left a byte in OUT, the host has OUT to send. -/
theorem State.sendable_of_out {t : State} (herr : t.err = .none) (hlen : 0 < t.outLen.toNat) :
    t.outLen ≠ 0 ∧ t.sendable = some t.out := by
  have hne : t.outLen ≠ 0 := by
    intro h
    simp [h] at hlen
  exact ⟨hne, if_pos ⟨herr, hne⟩⟩

/-- R813: after an operation that ended in an error the host has nothing to send. -/
theorem State.sendable_of_error {t : State} (herr : t.err ≠ .none) : t.sendable = none :=
  if_neg fun h => herr h.1

/-- R302, R711: the building operations are ENC16 and the frame operations. -/
theorem enc16_or_frameCommand_of_building {i : Instr} (hi : i ∈ buildingOps) (c : Config) :
    i = .enc16 ∨ ∃ cmd, frameCommand c i = some cmd := by
  simp only [buildingOps, List.mem_cons, List.not_mem_nil, or_false] at hi
  obtain rfl | hframe := hi
  · exact .inl rfl
  · right
    obtain rfl | rfl | rfl | rfl | rfl | rfl | rfl := hframe <;> exact ⟨_, rfl⟩

/-- R501: a building operation that ends in an error is a failed build. -/
theorem exec_building_error {i : Instr} {s t : State} (hi : i ∈ buildingOps)
    (h : exec i s = .next t) (herr : t.err ≠ .none) : ∃ e arg, t = s.failBuild e arg := by
  obtain hdone | ⟨e, arg, ht, -⟩ | ⟨rfl, -⟩ | ⟨hchk, -⟩ | ⟨rfl, -⟩ := exec_ends_cases h
  · exact absurd hdone.err herr
  · exact ⟨e, arg, ht⟩
  · exact absurd hi (by decide)
  · have hdisj : ∀ j ∈ [Instr.chkRd, .chkSeq], j ∉ buildingOps := by decide
    exact absurd hi (hdisj i hchk)
  · exact absurd hi (by decide)

/-- R410, R307: a building operation that ends without error leaves a byte in OUT: a field has two at
least, a frame four. -/
theorem exec_building_outLen_pos {i : Instr} {s t : State} (hi : i ∈ buildingOps)
    (h : exec i s = .next t) (herr : t.err = .none) : 0 < t.outLen.toNat := by
  obtain rfl | ⟨cmd, hcmd⟩ := enc16_or_frameCommand_of_building hi s.cfg
  · cases hrange : inInt16 (s32 s.argA) with
    | true =>
      rw [exec_enc16_ok hrange] at h
      injection h with h
      have hcount : t.outLen.toNat = (escAll s.cfg (le16 (s32 s.argA))).length :=
        h ▸ s.setOut_field_outLen_toNat s.argA
      rw [hcount, escAll_le16_s32_length]
      omega
    | false =>
      rw [exec_enc16_range hrange] at h
      injection h with h
      subst h
      cases herr
  · have hlen := (exec_frame_outLen hcmd h herr).1
    split at hlen <;> omega

/-- Settles O39: a failed build leaves OUT empty, and a successful one never does. -/
theorem failedBuildSendsNothing : Obligations.FailedBuildSendsNothing := by
  refine fun i s t hi h => ⟨fun herr => ?_, fun herr => ?_⟩
  · have hsend := State.sendable_of_error herr
    obtain ⟨e, arg, rfl⟩ := exec_building_error hi h herr
    exact ⟨rfl, rfl, hsend⟩
  · exact State.sendable_of_out herr (exec_building_outLen_pos hi h herr)

/-! ### A response loaded and parsed -/

/-- R12, W5: IN has room for a response under an accepted configuration. -/
theorem rspLen_le_inMax_of_accepted {c : Config} (h : c.accepted = true) : rspLen ≤ c.inMax := by
  simp only [Config.accepted, Config.w5, Bool.and_eq_true, decide_eq_true_eq] at h
  obtain ⟨-, hmin, -⟩ := h
  exact hmin

/-- R600: the response fields are the first nine bytes that IN holds, in their order. -/
theorem State.Holds.responseFields {s : State} {b0 b1 b2 b3 b4 b5 b6 b7 b8 : Byte} {rest : List Byte}
    (h : s.Holds (b0 :: b1 :: b2 :: b3 :: b4 :: b5 :: b6 :: b7 :: b8 :: rest)) :
    s.responseFields = ⟨b0, b1, b2, b3, b4, b5, b6, b7, b8⟩ := by
  have byte (i : Nat) (hi : i < 9) := h.byte i (by simp only [List.length_cons]; omega)
  simp only [State.responseFields, byte 0 (by decide), byte 1 (by decide), byte 2 (by decide),
    byte 3 (by decide), byte 4 (by decide), byte 5 (by decide), byte 6 (by decide), byte 7 (by decide),
    byte 8 (by decide)]
  rfl

/-- R601, R313: the statement RSP_PARSE with a sequence loaded: nine bytes are the response, whatever
follows them, and fewer are an error. -/
theorem run_rspParse {s : State} {bs : List Byte} {rest : List BusEvent} (hc : s.cfg.accepted = true)
    (hp : s.pending = (Stmt.op .rspParse []).events s.cfg.base ++ rest) (hload : s.Loaded bs) :
    ∃ t, core.run 1 s = .next t ∧ t.pending = rest ∧
      (∀ b0 b1 b2 b3 b4 b5 b6 b7 b8 tail,
        bs = b0 :: b1 :: b2 :: b3 :: b4 :: b5 :: b6 :: b7 :: b8 :: tail →
        t.rsp = ⟨b0, b1, b2, b3, b4, b5, b6, b7, b8⟩ ∧ t.err = .none) ∧
      (bs.length < 9 → t.err = .malformedResponse ∧ t.condN = 0) := by
  have hstep := statementRunsOperation s .rspParse [] rest hc (by decide) hp
  have hlen := hload.length
  by_cases hok : 9 ≤ bs.length
  · refine ⟨_, hstep.trans (exec_rspParse_ok (hlen ▸ hok)), rfl, ?_, fun hshort => by omega⟩
    rintro b0 b1 b2 b3 b4 b5 b6 b7 b8 tail rfl
    exact ⟨State.Holds.responseFields (State.Loaded.holds ⟨hlen, hload.written⟩), rfl⟩
  · have hshort : bs.length < 9 := Nat.lt_of_not_le hok
    refine ⟨_, hstep.trans (exec_rspParse_short (hlen ▸ hshort)), rfl, ?_, fun _ => ⟨rfl, rfl⟩⟩
    rintro b0 b1 b2 b3 b4 b5 b6 b7 b8 tail rfl
    simp at hok

/-- Settles O45: LDIN loads the bytes kept, and RSP_PARSE reads them; IN_MAX cuts none of the first
nine. -/
theorem loadedResponseIsParsed : Obligations.LoadedResponseIsParsed := by
  intro s chunks hc hp
  have hroom : 9 ≤ s.cfg.inMax := rspLen_le_inMax_of_accepted hc
  have hkept : (chunks.flatten.take s.cfg.inMax).length = min chunks.flatten.length s.cfg.inMax := by
    rw [List.length_take, Nat.min_comm]
  obtain ⟨u, hldin, hcfg, hpend, hload⟩ := run_ldin hc (List.length_take_le _ _) hp
  obtain ⟨t, hparse, hpendt, hresponse, hshort⟩ := run_rspParse (hcfg ▸ hc) (hcfg ▸ hpend) hload
  refine ⟨t, ?_, hpendt, ?_, fun hlen => hshort (by omega)⟩
  · rw [← hkept]
    exact (run_add hldin 1).trans hparse
  · intro b0 b1 b2 b3 b4 b5 b6 b7 b8 rest hflat
    obtain ⟨k, hk⟩ := Nat.exists_eq_add_of_le' hroom
    exact hresponse b0 b1 b2 b3 b4 b5 b6 b7 b8 (rest.take k) (by rw [hflat, hk]; rfl)

/-! ### Which operation writes what

R804, R805, R806: each result register has its operations. That an operation keeps to its own is built up
from the updates it is made of: an update is allowed to the operations of the register it writes. -/

/-- R804: the operations that write OUT. -/
def outOps : List Instr := .esc :: buildingOps

/-- R804: the operations that write RES. -/
def resOps : List Instr := [.unesc, .dec16, .chkRd, .chkSeq] ++ buildingOps

/-- From `s` to `t` operation `i` has written no result register, flag or accumulator of another. -/
structure WritesOnlyOwn (i : Instr) (s t : State) : Prop where
  out : i ∉ outOps → t.out = s.out
  outLen : i ∉ outOps → t.outLen = s.outLen
  res : i ∉ resOps → t.res = s.res
  res2 : i ∉ [Instr.unesc, .dec16] → t.res2 = s.res2
  rsp : i ≠ .rspParse → t.rsp = s.rsp
  flags : i ∉ [Instr.rspParse, .flgDecode] → t.flags = s.flags
  cond : i ∉ [Instr.rspParse, .flgDecode] → t.cond = s.cond
  condN : i ∉ [Instr.rspParse, .flgDecode] → t.condN = s.condN
  unescPend : i ∉ [Instr.unesc, .unescRst] → t.unescPend = s.unescPend
  acc : i ∉ [Instr.chkClr, .chkAdd] → t.acc = s.acc
  accN : i ∉ [Instr.chkClr, .chkAdd] → t.accN = s.accN

namespace WritesOnlyOwn

variable {i : Instr} {s t : State}

theorem refl (i : Instr) (s : State) : WritesOnlyOwn i s s := by
  constructor <;> intros <;> rfl

theorem done (h : WritesOnlyOwn i s t) : WritesOnlyOwn i s t.done := { h with }

theorem raise (h : WritesOnlyOwn i s t) (e : ErrKind) (arg : ErrArg) :
    WritesOnlyOwn i s (t.raise e arg) := { h with }

theorem setOut (h : WritesOnlyOwn i s t) (hi : i ∈ outOps) (bs : List Byte) :
    WritesOnlyOwn i s (t.setOut bs) :=
  { h with out := absurd hi, outLen := absurd hi }

theorem setRes (h : WritesOnlyOwn i s t) (hi : i ∈ resOps) (v : Word) :
    WritesOnlyOwn i s (t.setRes v) :=
  { h with res := absurd hi }

theorem setRes2 (h : WritesOnlyOwn i s t) (hi : i ∈ [Instr.unesc, .dec16]) (v : Word) :
    WritesOnlyOwn i s (t.setRes2 v) :=
  { h with res2 := absurd hi }

theorem setPend (h : WritesOnlyOwn i s t) (hi : i ∈ [Instr.unesc, .unescRst]) (p : Bool) :
    WritesOnlyOwn i s (t.setPend p) :=
  { h with unescPend := absurd hi }

theorem setAcc (h : WritesOnlyOwn i s t) (hi : i ∈ [Instr.chkClr, .chkAdd]) (x : Byte) (n : Bool) :
    WritesOnlyOwn i s (t.setAcc x n) :=
  { h with acc := absurd hi, accN := absurd hi }

theorem setRsp (h : WritesOnlyOwn i s t) (hi : i = .rspParse) (r : Response) :
    WritesOnlyOwn i s (t.setRsp r) :=
  { h with rsp := absurd hi }

theorem setCond (h : WritesOnlyOwn i s t) (hi : i ∈ [Instr.rspParse, .flgDecode]) (f : BitVec 24)
    (cs : List Byte) : WritesOnlyOwn i s (t.setCond f cs) :=
  { h with flags := absurd hi, cond := absurd hi, condN := absurd hi }

/-- R501: OUT and RES belong to every building operation, whether its build succeeds or fails. -/
theorem setOut_setRes (hi : i ∈ buildingOps) (bs : List Byte) (v : Word) :
    WritesOnlyOwn i s ((s.setOut bs).setRes v) :=
  ((refl i s).setOut (List.mem_cons_of_mem _ hi) bs).setRes (List.mem_append_right _ hi) v

end WritesOnlyOwn

/-- R804, R805, R806: every operation writes only what is its own. -/
theorem exec_writesOnlyOwn {i : Instr} {s t : State} (h : exec i s = .next t) : WritesOnlyOwn i s t := by
  have start : WritesOnlyOwn i s s := .refl i s
  have building : [Instr.enc16, .frmJog, .frmAbs, .frmDelta] ⊆ buildingOps := by decide
  have checksum : [Instr.chkRd, .chkSeq] ⊆ resOps := by decide
  rcases exec_cases h with ⟨rfl, b, rfl⟩ | ⟨rfl, v, n, p, rfl⟩ | ⟨rfl, rfl⟩ | ⟨rfl, v, w, rfl⟩ |
    ⟨hi, arg, rfl⟩ | ⟨rfl, rfl⟩ | ⟨rfl, v, n, rfl⟩ | ⟨rfl, rfl⟩ | ⟨rfl, rfl⟩ | ⟨rfl, x, rfl⟩ |
    ⟨hi, v, rfl⟩ | ⟨hi, rfl⟩ | ⟨cmd, p, rfl, hframe⟩ | ⟨rfl, r, p, q, g, rfl⟩ | ⟨rfl, rfl⟩ |
    ⟨rfl, p, q, g, rfl⟩
  -- ESC, UNESC, UNESC_RST
  · exact (start.setOut (by decide) _).done
  · exact (((start.setRes (by decide) v).setRes2 (by decide) n).setPend (by decide) p).done
  · exact (start.setPend (by decide) false).done
  -- ENC16 and a failed build
  · exact (WritesOnlyOwn.setOut_setRes (by decide) _ w).done
  · exact (WritesOnlyOwn.setOut_setRes (building hi) [] 0).raise _ arg
  · exact (WritesOnlyOwn.setOut_setRes (by decide) [] 0).raise _ .a
  -- DEC16 with and without a field
  · exact ((start.setRes (by decide) v).setRes2 (by decide) n).done
  · exact ((start.setRes (by decide) 0).setRes2 (by decide) 0).raise _ _
  -- the accumulator and the checksums
  · exact (start.setAcc (by decide) 0 false).done
  · exact (start.setAcc (by decide) x true).done
  · exact (start.setRes (checksum hi) v).done
  · exact (start.setRes (checksum hi) 0).raise _ _
  -- a frame
  · have hi : i ∈ buildingOps := by
      rcases hframe with ⟨rfl, -⟩ | ⟨rfl, -⟩ | ⟨rfl, -⟩ | ⟨rfl, -⟩ | ⟨rfl, -⟩ | ⟨rfl, -⟩ | ⟨rfl, -⟩ <;>
        decide
    exact (WritesOnlyOwn.setOut_setRes hi _ _).done
  -- RSP_PARSE of a response and of a short one, FLG_DECODE
  · exact ((start.setRsp rfl r).setCond (by decide) _ _).done
  · exact ((start.setRsp rfl _).setCond (by decide) 0 []).raise _ _
  · exact (start.setCond (by decide) _ _).done

/-- Settles O49: the registers of R804, one by one. -/
theorem resultRegistersWrittenOnlyByTheirOperations :
    Obligations.ResultRegistersWrittenOnlyByTheirOperations := by
  intro i s t h
  have own := exec_writesOnlyOwn h
  refine ⟨fun hesc hbuild => ?_, fun hdec hbuild => ?_, own.res2, own.rsp, fun hi =>
    ⟨own.flags hi, own.cond hi, own.condN hi⟩⟩
  · have hi : i ∉ outOps := List.not_mem_cons_of_ne_of_not_mem hesc hbuild
    exact ⟨own.out hi, own.outLen hi⟩
  · exact own.res (List.not_mem_append hdec hbuild)

/-! ### What a step does to the hidden state

R805, R806: outside a reset the hidden state changes only in an operation, and then by its updates. -/

/-- What is kept over two moves is kept over both. -/
theorem SameHidden.trans {s t u : State} (h : SameHidden s t) (h' : SameHidden t u) : SameHidden s u :=
  ⟨⟨h'.acc.acc.trans h.acc.acc, h'.acc.accN.trans h.acc.accN⟩, h'.unescPend.trans h.unescPend,
    h'.rsp.trans h.rsp, ⟨h'.cond.flags.trans h.cond.flags, h'.cond.cond.trans h.cond.cond,
      h'.cond.condN.trans h.cond.condN⟩⟩

/-- R201: a host write of a register other than CMD leaves the hidden state as it was. -/
theorem State.writeRegister_sameHidden (s : State) (off : Nat) (v : Word) :
    SameHidden s (s.writeRegister off v) := by
  obtain e | e | e | e | ⟨-, e⟩ | e | e := s.writeRegister_cases off v <;>
    exact ⟨⟨by simp [e], by simp [e]⟩, by simp [e], by simp [e], by simp [e], by simp [e], by simp [e]⟩

/-- Only a reset and an operation can change the hidden state; an operation starts from the hidden state
before its CMD write. -/
theorem step_hidden_cases {s t : State} (h : step s = .next t) :
    SameHidden s t ∨ ∃ e rest, s.pending = e :: rest ∧
      (e = .reset ∨ ∃ i u, e = .write 32 s.cfg.base (encode i) ∧ SameHidden s u ∧ exec i u = .next t) := by
  obtain ⟨-, ⟨-, rfl⟩ | ⟨e, rest, hp, hevent⟩⟩ := step_cases h
  · exact .inl (.refl t)
  obtain ⟨rfl, -⟩ | ⟨off, -, -, -, rfl⟩ | ⟨off, v, -, -, -, -, rfl⟩ | ⟨w, rfl, ht⟩ := hevent
  · exact .inr ⟨_, rest, hp, .inl rfl⟩
  · exact .inl ⟨⟨rfl, rfl⟩, rfl, rfl, ⟨rfl, rfl, rfl⟩⟩
  · have htick : SameHidden s (s.setPending rest).tick := ⟨⟨rfl, rfl⟩, rfl, rfl, ⟨rfl, rfl, rfl⟩⟩
    exact .inl (htick.trans (State.writeRegister_sameHidden _ off v))
  · obtain ⟨i, hdecode, hrun⟩ | ⟨-, hillegal⟩ := State.performCommand_cases _ w
    · obtain rfl : w = encode i := decode_eq_ok_iff.mp hdecode
      rw [hrun] at ht
      refine .inr ⟨_, rest, hp, .inr ⟨i, _, rfl, ?_, ht⟩⟩
      exact ⟨⟨rfl, rfl⟩, rfl, rfl, ⟨rfl, rfl, rfl⟩⟩
    · rw [hillegal] at ht
      injection ht with ht
      exact .inl (ht ▸ ⟨⟨rfl, rfl⟩, rfl, rfl, ⟨rfl, rfl, rfl⟩⟩)

/-- Settles O52: an operation that changes UNESC_PEND is UNESC or UNESC_RST. -/
theorem unescPendChangedOnlyByUnescaper : Obligations.UnescPendChangedOnlyByUnescaper := by
  intro s t h hne
  obtain hsame | ⟨e, rest, hp, rfl | ⟨i, u, rfl, hsame, hexec⟩⟩ := step_hidden_cases h
  · exact absurd hsame.unescPend hne
  · exact ⟨_, rest, hp, .inl rfl⟩
  · have hi : i ∈ [Instr.unesc, .unescRst] := by
      by_contra hno
      exact hne (((exec_writesOnlyOwn hexec).unescPend hno).trans hsame.unescPend)
    obtain rfl | rfl : i = .unesc ∨ i = .unescRst := by simpa using hi
    · exact ⟨_, rest, hp, .inr (.inl rfl)⟩
    · exact ⟨_, rest, hp, .inr (.inr rfl)⟩

/-- Settles O53: an operation that changes the accumulator is CHK_CLR or CHK_ADD. -/
theorem accumulatorChangedOnlyByItsOperations : Obligations.AccumulatorChangedOnlyByItsOperations := by
  intro s t h hne
  obtain hsame | ⟨e, rest, hp, rfl | ⟨i, u, rfl, hsame, hexec⟩⟩ := step_hidden_cases h
  · exact absurd hsame.acc.accN (hne.resolve_left (· hsame.acc.acc))
  · exact ⟨_, rest, hp, .inl rfl⟩
  · have hi : i ∈ [Instr.chkClr, .chkAdd] := by
      by_contra hno
      have own := exec_writesOnlyOwn hexec
      have hacc : t.acc = s.acc := (own.acc hno).trans hsame.acc.acc
      have haccN : t.accN = s.accN := (own.accN hno).trans hsame.acc.accN
      exact hne.elim (· hacc) (· haccN)
    obtain rfl | rfl : i = .chkClr ∨ i = .chkAdd := by simpa using hi
    · exact ⟨_, rest, hp, .inr (.inl rfl)⟩
    · exact ⟨_, rest, hp, .inr (.inr rfl)⟩

end Sys2Proof.Machine
